-- ==== Sys2Proof/Word.lean ====
section
/-! DEFINITION. The bit-vector types of the core (00_scope.md R7, 10_state.md R30, R32): a 12-bit brightness, a byte of
the frame, the 16-channel register file, the 24-byte frame. -/

namespace Sys2Proof

/-- One channel's brightness: GS_BITS = 12 bits, unsigned (R7, R30). -/
abbrev Gray := BitVec 12

/-- One byte of the framebuffer (R32). -/
abbrev Byte := BitVec 8

/-- The channel register file `gs[0..15]`: N = 16 is fixed (R7, R30). -/
abbrev Channels := Vector Gray 16

/-- The framebuffer `fb[0..23]`: FRAME_BYTES = 24 is fixed (R7, R32). -/
abbrev Frame := Vector Byte 24

/-- `ceil(log2 n)`, at least 1: the width R7 gives a counter that must hold the numbers below `n`. -/
def counterWidth (n : Nat) : Nat := max 1 (Nat.clog 2 n)

end Sys2Proof
end

