-- ==== Sys2Proof/Config.lean ====
section
/-! DEFINITION. The implementation parameters of 00_scope.md R7 that a rule of the core reads, with the defaults the spec
gives them, and the two OPEN values (F_CLK_HZ, GSCLK_DUTY_NS) that no rule of the core reads. -/

namespace Sys2Proof

/-- The parameters one core is built from (R7).
D1 makes the step a function of the parameters, so they ride in the state and no step changes them (notes/assumptions/1.md). -/
structure Params where
  /-- ID_WIDTH: bits of a channel id on a port. -/
  idWidth : Nat
  /-- IN_WIDTH: bits of `wr_val`. -/
  inWidth : Nat
  /-- IN_SIGNED: `wr_val` is two's complement. -/
  inSigned : Bool
  /-- SCALE_SHIFT: left shift before the clamp; a negative amount shifts right. -/
  scaleShift : Int
  /-- PERIOD_CYCLES: steps between timer expiries. -/
  periodCycles : Nat
  /-- PULSE_CYCLES: steps BLANK is held high. -/
  pulseCycles : Nat
  /-- BLANK_INIT: the level of `blank` after reset. -/
  blankInit : Bool
  /-- F_GS_HZ: the grayscale clock's frequency, configuration for the clock collaborator (R231). -/
  fGsHz : Nat
deriving DecidableEq, Repr

namespace Config

/-- GS_PERIOD_NS where F_GS_HZ is 0, for which R7's quotient has no value and R8 states no bound: a free value.
DESIGN CHOICE (notes/assumptions/16.md).
No rule of the step reads it. -/
opaque gsPeriodAtZeroHz : ℚ

/-- F_CLK_HZ, the core's own clock: OPEN (R7, D30; notes/assumptions/12.md).
No rule of the step reads it. -/
opaque fClkHz : ℚ

/-- GSCLK_DUTY_NS, the GSCLK high time: OPEN (R7, D31; notes/assumptions/12.md).
No rule of the step reads it. -/
opaque gsclkDutyNs : ℚ

/-- The parameters `State.reset` is built with: R7's values, where R7 gives one.
DESIGN CHOICE, unsafe (notes/assumptions/2.md): PERIOD_CYCLES is OPEN, and 81,920 is R7's own example (50 MHz, 2.5 MHz). -/
def defaults : Params where
  idWidth := 8
  inWidth := 32
  inSigned := true
  scaleShift := 0
  periodCycles := 81920
  pulseCycles := 1
  blankInit := true
  fGsHz := 2500000

end Config

end Sys2Proof
end

