-- ==== Sys2Proof/Machine/State.lean ====
section
/-! DEFINITION. The architectural state (10_state.md), the two reasons a step can stop with a fault and the reasons it is
refused, and the state right after reset (70_reset_and_hazards.md R250). -/

namespace Sys2Proof.Machine

/-- The scheduler's FSM state `st` (R36, R160). `reserved7` is code 7, which no rule produces. -/
inductive FsmState where
  | init
  | idle
  | pulse
  | xmit
  | stopped
  | halted
  | cfgfail
  | reserved7
deriving DecidableEq, Repr

/-- The error causes of R210. -/
inductive Cause where
  | configurationError
  | transportError
  | invalidChannel
  | hardwareLinkError
  | protocolViolation
deriving DecidableEq, Repr

/-- What `last_err` can hold (R48, R210): no cause yet, a cause's code, or a reserved code that no rule writes. -/
inductive ErrCode where
  | none
  | raised (c : Cause)
  | reserved6
  | reserved7
deriving DecidableEq, Repr

/-- The state of the core: every element of 10_state.md section 1, then the model's own fields. -/
structure State where
  /-- The channel register file (R30). -/
  gs : Channels
  /-- The framebuffer (R32). -/
  fb : Frame
  /-- The dirty flag (R34). -/
  dirty : Bool
  /-- A register was written after the last snapshot (R35). -/
  wsnap : Bool
  /-- The FSM state (R36). -/
  st : FsmState
  /-- Pulse cycles still to come (R37); D36 lets a model hold it as a number (notes/assumptions/10.md). -/
  pcnt : Nat
  /-- The period down-counter (R38); D36 lets a model hold it as a number (notes/assumptions/10.md). -/
  tmr : Nat
  /-- Whether the period counter counts (R38). -/
  tmrRun : Bool
  /-- One expiry is held (R39). -/
  tickPend : Bool
  /-- The BLANK line's level (R41). -/
  blank : Bool
  /-- The transport request (R42). -/
  txReq : Bool
  /-- A completion failed in the step before (R43). -/
  txFail : Bool
  /-- The latched teardown request (R40). -/
  stopLat : Bool
  /-- Sticky: an access with an invalid id (R44). -/
  errInv : Bool
  /-- Sticky: a completion outside a transaction (R45). -/
  errProto : Bool
  /-- Sticky: two expiries folded into one tick (R46). -/
  ovr : Bool
  /-- Failed completions, saturating (R47). -/
  txerrCnt : BitVec 16
  /-- The last reported cause (R48). -/
  lastErr : ErrCode
  /-- The MODEL's: what the combinational port `rd_data` showed in the step just taken (R112; notes/assumptions/4.md). -/
  rdData : Gray
  /-- The MODEL's: the result of the last ENCODE run as an operation of its own (R140; notes/assumptions/5.md). -/
  encOut : Frame
  /-- The MODEL's: the result of the last DECODE (R146; notes/assumptions/5.md). -/
  decOut : Channels
  /-- The MODEL's: the parameters the core is built from (R7), which no step changes (notes/assumptions/1.md). -/
  params : Params
  /-- The MODEL's: the input words of the steps to come, one a step, next first (R88, R89; notes/assumptions/6.md). -/
  script : List Nat
deriving DecidableEq, Repr

/-- Why the machine stops. -/
inductive Fault where
  /-- Raised by a clock step without `rst` that meets `st` code 7 (R36, I9). Safe: no rule produces the code. -/
  | reservedFsmCode
  /-- Raised by a clock step without `rst` that meets `last_err` code 6 or 7 (R210, I10). Safe: no rule writes them. -/
  | reservedErrCode
deriving DecidableEq, Repr

/-- Why a step has no meaning. -/
inductive Refusal where
  /-- An instruction that has no meaning yet; no arm of this model answers it. Safe. -/
  | notModelled (mnemonic : String)
  /-- Raised by every clock step of a core whose parameters break R8 (R7, R268, I13). Safe. -/
  | configuration
  /-- Raised by the fetch of a number with bits above the input word's width (R82, R88). Safe. -/
  | inputWordTooWide
deriving DecidableEq, Repr

/-- `ResetState` of a core with parameters `p` (R250), with `script` still to come.
The reset values are those of 10_state.md; the model's own `rdData` is R200's `rd_data = 0`, and the two result fields are
zero (notes/assumptions/5.md). -/
def State.resetOf (p : Params) (script : List Nat) : State where
  gs := Vector.replicate 16 0
  fb := Vector.replicate 24 0
  dirty := true
  wsnap := false
  st := .init
  pcnt := 0
  tmr := 0
  tmrRun := false
  tickPend := false
  blank := p.blankInit
  txReq := false
  txFail := false
  stopLat := false
  errInv := false
  errProto := false
  ovr := false
  txerrCnt := 0
  lastErr := .none
  rdData := 0
  encOut := Vector.replicate 24 0
  decOut := Vector.replicate 16 0
  params := p
  script := script

/-- The machine right after reset, at the default parameters, with no input script placed. -/
def State.reset : State := State.resetOf Config.defaults []

end Sys2Proof.Machine
end

