-- ==== Sys2Proof/Syntax.lean ====
section
/-! DEFINITION. What the core decodes: the input ports sampled in one step (30_encoding.md R80), and one constructor for
each row of spec/opcode_table.json (R84, R85). Several operations may be selected in one step, so a constructor carries
ALL the ports sampled beside its own selecting bits. -/

namespace Sys2Proof

/-- The input ports of R80 as one step samples them (`clk` is the step itself).
The ids and the raw value are the unsigned numbers on their ports. -/
structure Input where
  rst : Bool
  wrEn : Bool
  rdEn : Bool
  stopReq : Bool
  txDone : Bool
  txOk : Bool
  blankFault : Bool
  resOk : Bool
  wrId : Nat
  rdId : Nat
  wrVal : Nat
deriving DecidableEq, Repr

/-- The operations of the core, one per row of spec/opcode_table.json.
Each operation that happens in a clock step carries the ports `io` of that step: its own operands and everything that is
asserted beside it. The bits that select the operation are taken as asserted whatever `io` says (notes/assumptions/3.md). -/
inductive Instr where
  /-- RESET (R250). -/
  | reset (io : Input)
  /-- SET_BRIGHTNESS (R111); operands `io.wrId`, `io.wrVal`. -/
  | setBrightness (io : Input)
  /-- READ_CHANNEL (R112); operand `io.rdId`. -/
  | readChannel (io : Input)
  /-- STOP_REQ (R178). -/
  | stopReq (io : Input)
  /-- TX_DONE_OK (R174, R177). -/
  | txDoneOk (io : Input)
  /-- TX_DONE_FAIL (R175, R177). -/
  | txDoneFail (io : Input)
  /-- BLANK_FAULT (R180, R168). -/
  | blankFault (io : Input)
  /-- INIT_CHECK (R168). -/
  | initCheck (io : Input)
  /-- NOP (R200). -/
  | nop (io : Input)
  /-- TIMER_EXPIRE (R161, R162), selected by the state. -/
  | timerExpire (io : Input)
  /-- TICK_ACCEPT (R170), selected by the state. -/
  | tickAccept (io : Input)
  /-- PULSE_HOLD (R171), selected by the state. -/
  | pulseHold (io : Input)
  /-- PULSE_END_CLEAN (R173), selected by the state. -/
  | pulseEndClean (io : Input)
  /-- SNAPSHOT_SEND (R172), selected by the state. -/
  | snapshotSend (io : Input)
  /-- ENCODE (R140), a pure function of the 16 values. -/
  | encode (g : Channels)
  /-- DECODE (R146), the test-only inverse. -/
  | decode (f : Frame)
deriving DecidableEq, Repr

end Sys2Proof
end

