-- ==== Sys2Proof/Machine/Operands.lean ====
section
/-! DEFINITION. The operands: the parameter constraints (00_scope.md R8), how the raw value on `wr_val` is read
(30_encoding.md R83), the scale-then-clamp conversion (40_registry.md R110), and the saturating sum of R9. -/

namespace Sys2Proof.Machine

/-- R8's constraints; a model refuses a configuration that breaks one (I13). -/
def paramsValid (p : Params) : Bool :=
  decide (1 ≤ p.pulseCycles) && decide (p.pulseCycles + 1 ≤ p.periodCycles) && decide (4 ≤ p.idWidth)
    && decide (1 ≤ p.inWidth) && decide (-(p.inWidth : Int) ≤ p.scaleShift) && decide (p.scaleShift ≤ 12)

/-- TMR_WIDTH (R7). -/
def tmrWidth (p : Params) : Nat := counterWidth p.periodCycles

/-- PCNT_WIDTH (R7). -/
def pcntWidth (p : Params) : Nat := counterWidth p.pulseCycles

/-- GS_PERIOD_NS = 1e9 / F_GS_HZ (R7), exactly.
DESIGN CHOICE (notes/assumptions/16.md): for F_GS_HZ = 0, which R8 does not exclude, it is a free value. -/
def gsPeriodNs (p : Params) : ℚ := if p.fGsHz = 0 then Config.gsPeriodAtZeroHz else 1000000000 / p.fGsHz

/-- BLANK_PERIOD_NS = 4096 * GS_PERIOD_NS (R7, R164). -/
def blankPeriodNs (p : Params) : ℚ := 4096 * gsPeriodNs p

/-- The nominal PERIOD_CYCLES of a core clocked at `fClkHz` (R164), exactly; the core does not compute it. -/
def nominalPeriodCycles (p : Params) (fClkHz : ℚ) : ℚ := blankPeriodNs p * fClkHz / 1000000000

/-- The integer the host's `wr_val` stands for: two's complement or unsigned, by IN_SIGNED (R83). -/
def inputValue (p : Params) (raw : Nat) : Int :=
  if p.inSigned then (BitVec.ofNat p.inWidth raw).toInt else ((BitVec.ofNat p.inWidth raw).toNat : Int)

/-- R110's scaling: an exact shift by SCALE_SHIFT, a right shift rounding toward minus infinity. -/
def scaled (p : Params) (v : Int) : Int :=
  if 0 ≤ p.scaleShift then v * 2 ^ p.scaleShift.toNat else Int.fdiv v (2 ^ (-p.scaleShift).toNat)

/-- `ScaleClamp(v)` (R110): scale first, clamp into [0, 4095] second. -/
def scaleClamp (p : Params) (v : Int) : Gray :=
  if scaled p v < 0 then 0x000 else if 4095 < scaled p v then 0xFFF else BitVec.ofInt 12 (scaled p v)

/-- `sat_16(x) = min(x, 2^16 - 1)` (R9). -/
def sat16 (x : Nat) : BitVec 16 := BitVec.ofNat 16 (min x 65535)

end Sys2Proof.Machine
end

