-- ==== Sys2Proof/Machine/Flags.lean ====
section
/-! DEFINITION. The codes and the derived signals: `st` and `last_err` codes (10_state.md R36, 60_exceptions.md R210), the
status word (R52), the derived outputs (R53), the per-step control signals (42_scheduler.md R161, R165) and the priority of
the error causes (R214). -/

namespace Sys2Proof.Machine

/-- `st`'s encoding (R36). -/
def FsmState.code : FsmState → BitVec 3
  | .init => 0
  | .idle => 1
  | .pulse => 2
  | .xmit => 3
  | .stopped => 4
  | .halted => 5
  | .cfgfail => 6
  | .reserved7 => 7

/-- A cause's code (R210). -/
def Cause.code : Cause → BitVec 3
  | .configurationError => 1
  | .transportError => 2
  | .invalidChannel => 3
  | .hardwareLinkError => 4
  | .protocolViolation => 5

/-- `last_err`'s code (R48, R210). -/
def ErrCode.code : ErrCode → BitVec 3
  | .none => 0
  | .raised c => c.code
  | .reserved6 => 6
  | .reserved7 => 7

/-- The codes of `last_err` that no rule writes (R210). -/
def ErrCode.isReserved : ErrCode → Bool
  | .none | .raised _ => false
  | .reserved6 | .reserved7 => true

/-- `ready` (R53): the register file accepts accesses. -/
def State.ready (s : State) : Bool := s.st != .init && s.st != .cfgfail

/-- `quiescent` (R53): the timer is stopped and no transaction is in flight. -/
def State.quiescent (s : State) : Bool := s.st == .stopped || s.st == .halted || s.st == .cfgfail

/-- `gsclk_en` (R53): the enable request to the clock collaborator. -/
def State.gsclkEn (s : State) : Bool := s.st == .idle || s.st == .pulse || s.st == .xmit

/-- `fatal` (R53), which is `status[15]`. -/
def State.fatal (s : State) : Bool := s.st == .halted || s.st == .cfgfail

/-- The 16-bit status word (R52): FATAL, LAST_ERR, then the flags, then ST in the low bits. -/
def State.status (s : State) : BitVec 16 :=
  BitVec.ofBool s.fatal ++ s.lastErr.code ++ BitVec.ofBool s.ovr ++ BitVec.ofBool s.errProto ++ BitVec.ofBool s.errInv
    ++ BitVec.ofBool s.txReq ++ BitVec.ofBool s.blank ++ BitVec.ofBool s.stopLat ++ BitVec.ofBool s.tickPend
    ++ BitVec.ofBool s.wsnap ++ BitVec.ofBool s.dirty ++ s.st.code

/-- `exp` (R161): the period timer expires in this step. -/
def timerExpired (s : State) : Bool := s.tmrRun && s.tmr == 0

/-- `stop` (R165): a teardown request, latched or arriving now. -/
def stopRequested (io : Input) (s : State) : Bool := s.stopLat || io.stopReq

/-- `wv` (R172, R200): a SET_BRIGHTNESS is accepted in this step. -/
def writeAccepted (io : Input) (s : State) : Bool := io.wrEn && s.ready && decide (io.wrId < 16)

/-- The combinational output `rd_data` (R112): the register before the step, 0 where nothing is read. -/
def readPort (io : Input) (s : State) : Gray :=
  if !io.rst && io.rdEn && s.ready then (if h : io.rdId < 16 then s.gs[io.rdId] else 0) else 0

/-- R214's order, highest first. -/
def causePriority : List Cause :=
  [.configurationError, .hardwareLinkError, .transportError, .protocolViolation, .invalidChannel]

/-- The highest-priority cause among those raised (R214). -/
def highestCause (events : List Cause) : Option Cause := causePriority.find? fun c => events.contains c

end Sys2Proof.Machine
end

