-- ==== Sys2Proof/Machine/Frame.lean ====
section
/-! DEFINITION. The frame encoder as functions (41_encoder.md): Encode by byte triples (R140), its test-only inverse
(R146), and the 192-bit frame of R12 and R141. -/

namespace Sys2Proof.Machine

/-- Byte `f[j]` of `Encode(g)`: the triple `k = j/3` packs `a = g[2k]`, `b = g[2k+1]` (R140). -/
def frameByte (g : Channels) (j : Fin 24) : Byte :=
  let a := g[2 * (j.val / 3)]'(by omega)
  let b := g[2 * (j.val / 3) + 1]'(by omega)
  if j.val % 3 = 0 then a.extractLsb' 4 8
  else if j.val % 3 = 1 then a.extractLsb' 0 4 ++ b.extractLsb' 8 4
  else b.extractLsb' 0 8

/-- `Encode(g)` (R140). -/
def encodeFrame (g : Channels) : Frame := Vector.ofFn (frameByte g)

/-- Channel `c` of `Decode(f)`: even channels from `f[3k]` and a high nibble, odd ones from a low nibble and `f[3k+2]`
(R146). -/
def frameChannel (f : Frame) (c : Fin 16) : Gray :=
  let x := f[3 * (c.val / 2)]'(by omega)
  let y := f[3 * (c.val / 2) + 1]'(by omega)
  let z := f[3 * (c.val / 2) + 2]'(by omega)
  if c.val % 2 = 0 then x ++ y.extractLsb' 4 4 else y.extractLsb' 0 4 ++ z

/-- `Decode(f)` (R146). -/
def decodeFrame (f : Frame) : Channels := Vector.ofFn (frameChannel f)

/-- The 192 bits of a frame, `f[0]` in the most significant place (R12, R53's `tx_data`). -/
def frameBits (f : Frame) : BitVec 192 :=
  f[0] ++ f[1] ++ f[2] ++ f[3] ++ f[4] ++ f[5] ++ f[6] ++ f[7] ++ f[8] ++ f[9] ++ f[10] ++ f[11]
    ++ f[12] ++ f[13] ++ f[14] ++ f[15] ++ f[16] ++ f[17] ++ f[18] ++ f[19] ++ f[20] ++ f[21] ++ f[22] ++ f[23]

/-- `g[0] ++ g[1] ++ ... ++ g[15]`, R141's first line. -/
def channelBits (g : Channels) : BitVec 192 :=
  g[0] ++ g[1] ++ g[2] ++ g[3] ++ g[4] ++ g[5] ++ g[6] ++ g[7] ++ g[8] ++ g[9] ++ g[10] ++ g[11]
    ++ g[12] ++ g[13] ++ g[14] ++ g[15]

/-- The bits the transport sends, first on the wire first (R64): `F[191]` down to `F[0]`. -/
def wireBits (f : Frame) : List Bool := (List.range 192).map fun n => (frameBits f).getLsbD (191 - n)

end Sys2Proof.Machine
end

