-- ==== Sys2Proof/Machine/Ops.lean ====
section
/-! DEFINITION. The operations the rules share: a step under way, raising an error cause (60_exceptions.md R211, R213: the
core's one form of exception, which saves nothing and is never returned from, R220, R221), entering STOPPED
(42_scheduler.md R178), holding an expiry (R162), and the three phases every step ends with (R200). -/

namespace Sys2Proof.Machine

/-- A step under way (R200): the state it is writing, the causes it has raised, and whether it took a snapshot or ended a
transaction in success. The rules read the pre-step state beside it (R10). -/
structure Work where
  next : State
  events : List Cause
  snap : Bool
  succ : Bool
deriving DecidableEq, Repr

/-- R200's start: every field holds, nothing raised. -/
def startWork (s : State) : Work := ⟨s, [], false, false⟩

/-- What a cause records and does (R211), without `last_err`, which the step's end writes. -/
def causeEffect (c : Cause) (t : State) : State :=
  match c with
  | .configurationError => { t with st := .cfgfail }
  | .transportError => { t with txerrCnt := sat16 (t.txerrCnt.toNat + 1), txFail := true }
  | .invalidChannel => { t with errInv := true }
  | .hardwareLinkError => { t with st := .halted, tmrRun := false, tickPend := false, txReq := false }
  | .protocolViolation => { t with errProto := true }

/-- `raise <Cause>` (R11, R213): the cause's effect is written with the step's other writes, the cause joins the step's
events, and the step goes on. -/
def raise (c : Cause) (w : Work) : Work := { w with next := causeEffect c w.next, events := c :: w.events }

/-- `EnterStopped` (R178). -/
def enterStopped (w : Work) : Work :=
  { w with next := { w.next with st := .stopped, tmrRun := false, tickPend := false } }

/-- `Pend` where the timer expires: hold the expiry, and fold it into one that is held already (R162). -/
def pendIfExpired (s : State) (w : Work) : Work :=
  if timerExpired s then { w with next := { w.next with tickPend := true, ovr := s.tickPend || w.next.ovr } } else w

/-- R200 phase (4): the dirty flag and the write tracking bit (R34, R35, R172, R174). -/
def dirtyPhase (io : Input) (s : State) (w : Work) : Work :=
  { w with
    next :=
      { w.next with
        wsnap := if w.snap then writeAccepted io s else if writeAccepted io s then true else w.next.wsnap
        dirty := if writeAccepted io s then true else if w.succ then s.wsnap else w.next.dirty } }

/-- R200 phase (5): the teardown latch (R178). -/
def stopPhase (io : Input) (s : State) (w : Work) : Work :=
  { w with next := { w.next with stopLat := s.stopLat || io.stopReq } }

/-- R200 phase (6): `last_err` takes the highest-priority cause of the step; a step that raised none leaves it (R214). -/
def reportPhase (w : Work) : Work :=
  match highestCause w.events with
  | some c => { w with next := { w.next with lastErr := .raised c } }
  | none => w

/-- What every clock edge does before the rules apply.
A configuration that breaks R8 is refused (R7, R268); `rst` loads `ResetState` whatever the state (R250); a reserved code is
a fault (R36, I9, I10; notes/assumptions/9.md); otherwise the step's next state is `body` (R200). -/
def atEdge (io : Input) (s : State) (body : State) : Host.Outcome State Fault Refusal :=
  if !paramsValid s.params then .refused .configuration
  else if io.rst then .next (State.resetOf s.params s.script)
  else if s.st == .reserved7 then .fault .reservedFsmCode
  else if s.lastErr.isReserved then .fault .reservedErrCode
  else .next body

end Sys2Proof.Machine
end

