-- ==== Sys2Proof/Machine/Encoder.lean ====
section
/-! DEFINITION. The meanings of ENCODE and DECODE (41_encoder.md R140, R146) as operations of their own: pure functions,
whose result the model records; no state of the core changes (notes/assumptions/5.md). -/

namespace Sys2Proof.Machine

/-- ENCODE (R140): reads no state of the core and writes none. -/
def execEncode (g : Channels) (s : State) : Host.Outcome State Fault Refusal := .next { s with encOut := encodeFrame g }

/-- DECODE (R146): test-only, the inverse of ENCODE. -/
def execDecode (f : Frame) (s : State) : Host.Outcome State Fault Refusal := .next { s with decOut := decodeFrame f }

end Sys2Proof.Machine
end

