-- ==== Sys2Proof/Machine/Rules.lean ====
section
/-! DEFINITION. The rule bodies of the channel registry (40_registry.md) and the scheduler (42_scheduler.md), each over the
pre-step state `s`, the sampled ports `io` and the step under way `w`, and their composition `coreStep`, which is R200. -/

namespace Sys2Proof.Machine

/-! ### Channel registry -/

/-- The write of R111; phase (4) writes `dirty` and `wsnap`. -/
def registryWrite (io : Input) (s : State) (w : Work) : Work :=
  if io.wrEn && s.ready then
    if h : io.wrId < 16 then
      { w with next := { w.next with gs := w.next.gs.set io.wrId (scaleClamp s.params (inputValue s.params io.wrVal)) h } }
    else raise .invalidChannel w
  else w

/-- The read of R112. -/
def registryRead (io : Input) (s : State) (w : Work) : Work :=
  let w := { w with next := { w.next with rdData := readPort io s } }
  if io.rdEn && s.ready && decide (16 ≤ io.rdId) then raise .invalidChannel w else w

/-! ### Timer -/

/-- The reload at an expiry (R161). -/
def timerReload (_ : Input) (s : State) (w : Work) : Work :=
  { w with next := { w.next with tmr := s.params.periodCycles - 1 } }

/-- The period counter (R161): reload at its own expiry, else count down, and hold while stopped. -/
def timerPhase (io : Input) (s : State) (w : Work) : Work :=
  if s.tmrRun then
    if timerExpired s then timerReload io s w else { w with next := { w.next with tmr := s.tmr - 1 } }
  else w

/-! ### FSM -/

/-- INIT_CHECK (R168). -/
def initCheckRule (io : Input) (s : State) (w : Work) : Work :=
  if io.resOk && !io.blankFault then
    { w with next := { w.next with st := .idle, tmrRun := true, tmr := s.params.periodCycles - 1 } }
  else raise .configurationError w

/-- TICK_ACCEPT (R170). -/
def tickAcceptRule (_ : Input) (s : State) (w : Work) : Work :=
  { w with
    next :=
      { w.next with
        st := .pulse
        blank := true
        pcnt := s.params.pulseCycles - 1
        tickPend := false
        ovr := (timerExpired s && s.tickPend) || w.next.ovr } }

/-- The IDLE step, in R169's order. -/
def idleRule (io : Input) (s : State) (w : Work) : Work :=
  if io.blankFault then raise .hardwareLinkError w
  else if stopRequested io s then enterStopped w
  else if timerExpired s || s.tickPend then tickAcceptRule io s w
  else w

/-- PULSE_HOLD (R171): BLANK stays high. -/
def pulseHoldRule (_ : Input) (s : State) (w : Work) : Work :=
  let w := pendIfExpired s w
  { w with next := { w.next with pcnt := s.pcnt - 1 } }

/-- SNAPSHOT_SEND (R171's last pulse step, R172): the frame of the pre-step registers, written whole. -/
def snapshotSendRule (_ : Input) (s : State) (w : Work) : Work :=
  let w := pendIfExpired s w
  { w with next := { w.next with blank := false, fb := encodeFrame s.gs, txReq := true, st := .xmit }, snap := true }

/-- PULSE_END_CLEAN (R171's last pulse step, R173). -/
def pulseEndCleanRule (_ : Input) (s : State) (w : Work) : Work :=
  let w := pendIfExpired s w
  { w with next := { w.next with blank := false, st := .idle } }

/-- The last pulse step with a teardown request (R171, R178): BLANK falls and no transmit begins. -/
def pulseStopRule (_ : Input) (s : State) (w : Work) : Work :=
  let w := pendIfExpired s w
  enterStopped { w with next := { w.next with blank := false } }

/-- The PULSE step (R171, R180). -/
def pulseRule (io : Input) (s : State) (w : Work) : Work :=
  if io.blankFault then raise .hardwareLinkError w
  else if 0 < s.pcnt then pulseHoldRule io s w
  else if stopRequested io s then pulseStopRule io s w
  else if s.dirty then snapshotSendRule io s w
  else pulseEndCleanRule io s w

/-- A completion leaves XMIT for STOPPED or IDLE (R174, R175). -/
def leaveXmit (io : Input) (s : State) (w : Work) : Work :=
  if stopRequested io s then enterStopped w else { w with next := { w.next with st := .idle } }

/-- TX_DONE_OK in XMIT (R174); phase (4) writes `dirty`. -/
def txDoneOkRule (io : Input) (s : State) (w : Work) : Work :=
  let w := pendIfExpired s w
  leaveXmit io s { w with next := { w.next with txReq := false }, succ := true }

/-- TX_DONE_FAIL in XMIT (R175). -/
def txDoneFailRule (io : Input) (s : State) (w : Work) : Work :=
  let w := pendIfExpired s w
  leaveXmit io s (raise .transportError { w with next := { w.next with txReq := false } })

/-- The XMIT step (R174, R175, R180). -/
def xmitRule (io : Input) (s : State) (w : Work) : Work :=
  if io.blankFault then raise .hardwareLinkError w
  else if io.txDone then (if io.txOk then txDoneOkRule io s w else txDoneFailRule io s w)
  else pendIfExpired s w

/-- R200 phase (3): the rule of the FSM state. STOPPED, HALTED and CFGFAIL do nothing (R179, R181, R182). -/
def fsmPhase (io : Input) (s : State) (w : Work) : Work :=
  match s.st with
  | .init => initCheckRule io s w
  | .idle => idleRule io s w
  | .pulse => pulseRule io s w
  | .xmit => xmitRule io s w
  | .stopped | .halted | .cfgfail | .reserved7 => w

/-- A completion outside a transaction (R177). -/
def strayCompletion (io : Input) (s : State) (w : Work) : Work :=
  if io.txDone && (s.st == .init || s.st == .idle || s.st == .pulse || s.st == .stopped) then raise .protocolViolation w
  else w

/-! ### The step -/

/-- R200 with its timer phase and its FSM phase given. -/
def stepWith (timer fsm : Input → State → Work → Work) (io : Input) (s : State) : State :=
  let w := timer io s (registryRead io s (registryWrite io s (startWork s)))
  let w := fsm io s { w with next := { w.next with txFail := false } }
  (reportPhase (stopPhase io s (dirtyPhase io s (strayCompletion io s w)))).next

/-- `Step(s, i)` for a step with `rst = 0` (R200). -/
def coreStep (io : Input) (s : State) : State := stepWith timerPhase fsmPhase io s

/-- One rising edge of `clk` with the ports `io` (R10, R200). -/
def clockEdge (io : Input) (s : State) : Host.Outcome State Fault Refusal := atEdge io s (coreStep io s)

/-- A clock edge taken by an operation's own rule: where `sel` says the state and the ports select the operation, the step
runs through the operation's rule bodies; otherwise the operation does not happen and the edge is the core's (R85; DESIGN CHOICE, notes/assumptions/14.md). -/
def edgeVia (sel : Bool) (timer fsm : Input → State → Work → Work) (io : Input) (s : State) :
    Host.Outcome State Fault Refusal :=
  atEdge io s (if sel then stepWith timer fsm io s else coreStep io s)

/-! ### When a state and the ports select an operation (R85) -/

/-- TICK_ACCEPT is selected (R85, R169). -/
def tickAcceptSelected (io : Input) (s : State) : Bool :=
  s.st == .idle && (timerExpired s || s.tickPend) && !stopRequested io s && !io.blankFault

/-- PULSE_HOLD is selected (R85). -/
def pulseHoldSelected (io : Input) (s : State) : Bool := s.st == .pulse && decide (0 < s.pcnt) && !io.blankFault

/-- PULSE_END_CLEAN is selected (R85). -/
def pulseEndCleanSelected (io : Input) (s : State) : Bool :=
  s.st == .pulse && s.pcnt == 0 && !s.dirty && !stopRequested io s && !io.blankFault

/-- SNAPSHOT_SEND is selected (R85). -/
def snapshotSendSelected (io : Input) (s : State) : Bool :=
  s.st == .pulse && s.pcnt == 0 && s.dirty && !stopRequested io s && !io.blankFault

/-- A completion ends the transaction in flight (R174, R175): `st = XMIT` and no link fault. -/
def completionTaken (io : Input) (s : State) : Bool := s.st == .xmit && !io.blankFault

end Sys2Proof.Machine
end

