-- ==== Sys2Proof/Machine/Registry.lean ====
section
/-! DEFINITION. The meanings of SET_BRIGHTNESS and READ_CHANNEL (40_registry.md R111, R112). -/

namespace Sys2Proof.Machine

/-- SET_BRIGHTNESS (R111): the write happens in the step, beside the timer and the FSM (R200, R201). -/
def execSetBrightness (io : Input) (s : State) : Host.Outcome State Fault Refusal :=
  clockEdge { io with rst := false, wrEn := true } s

/-- READ_CHANNEL (R112): the port shows the pre-step register, recorded in `rdData`. -/
def execReadChannel (io : Input) (s : State) : Host.Outcome State Fault Refusal :=
  clockEdge { io with rst := false, rdEn := true } s

end Sys2Proof.Machine
end

