-- ==== Sys2Proof/Machine/Scheduler.lean ====
section
/-! DEFINITION. The meanings of the scheduler's operations (42_scheduler.md): those the ports select (R84) and those the
state selects (R85). Each runs the step through its own rule where it is selected. -/

namespace Sys2Proof.Machine

/-- STOP_REQ (R178): the request is latched, and taken where R169, R171, R174 and R175 call `EnterStopped`. -/
def execStopReq (io : Input) (s : State) : Host.Outcome State Fault Refusal :=
  clockEdge { io with rst := false, stopReq := true } s

/-- TX_DONE_OK: R174 in XMIT without a link fault, otherwise R177 and R180. -/
def execTxDoneOk (io : Input) (s : State) : Host.Outcome State Fault Refusal :=
  let io := { io with rst := false, txDone := true, txOk := true }
  edgeVia (completionTaken io s) timerPhase txDoneOkRule io s

/-- TX_DONE_FAIL: R175 in XMIT without a link fault, otherwise R177 and R180. -/
def execTxDoneFail (io : Input) (s : State) : Host.Outcome State Fault Refusal :=
  let io := { io with rst := false, txDone := true, txOk := false }
  edgeVia (completionTaken io s) timerPhase txDoneFailRule io s

/-- BLANK_FAULT: the link fault of R180 while the timer runs, the configuration failure of R168 in INIT, ignored in the
terminal states (R179, R181, R182). -/
def execBlankFault (io : Input) (s : State) : Host.Outcome State Fault Refusal :=
  let io := { io with rst := false, blankFault := true }
  if s.st == .init then edgeVia true timerPhase (fun _ _ w => raise .configurationError w) io s
  else edgeVia s.gsclkEn timerPhase (fun _ _ w => raise .hardwareLinkError w) io s

/-- INIT_CHECK (R168), in INIT. -/
def execInitCheck (io : Input) (s : State) : Host.Outcome State Fault Refusal :=
  let io := { io with rst := false }
  edgeVia (s.st == .init) timerPhase initCheckRule io s

/-- TIMER_EXPIRE (R161): the counter reloads; the FSM accepts, holds or discards the expiry (R162, R169). -/
def execTimerExpire (io : Input) (s : State) : Host.Outcome State Fault Refusal :=
  let io := { io with rst := false }
  edgeVia (timerExpired s) timerReload fsmPhase io s

/-- TICK_ACCEPT (R170). -/
def execTickAccept (io : Input) (s : State) : Host.Outcome State Fault Refusal :=
  let io := { io with rst := false }
  edgeVia (tickAcceptSelected io s) timerPhase tickAcceptRule io s

/-- PULSE_HOLD (R171). -/
def execPulseHold (io : Input) (s : State) : Host.Outcome State Fault Refusal :=
  let io := { io with rst := false }
  edgeVia (pulseHoldSelected io s) timerPhase pulseHoldRule io s

/-- PULSE_END_CLEAN (R173). -/
def execPulseEndClean (io : Input) (s : State) : Host.Outcome State Fault Refusal :=
  let io := { io with rst := false }
  edgeVia (pulseEndCleanSelected io s) timerPhase pulseEndCleanRule io s

/-- SNAPSHOT_SEND (R172). -/
def execSnapshotSend (io : Input) (s : State) : Host.Outcome State Fault Refusal :=
  let io := { io with rst := false }
  edgeVia (snapshotSendSelected io s) timerPhase snapshotSendRule io s

end Sys2Proof.Machine
end

