-- ==== Sys2Proof/Machine/System.lean ====
section
/-! DEFINITION. The meanings of RESET (70_reset_and_hazards.md R250) and NOP (42_scheduler.md R200). -/

namespace Sys2Proof.Machine

/-- RESET: `ResetState`, whatever the state and the other inputs (R250). -/
def execReset (io : Input) (s : State) : Host.Outcome State Fault Refusal := clockEdge { io with rst := true } s

/-- NOP: the step with nothing requested; bits 5 and 7 keep their levels (R84). The timer and the FSM go on (R200). -/
def execNop (io : Input) (s : State) : Host.Outcome State Fault Refusal :=
  clockEdge
    { io with rst := false, wrEn := false, rdEn := false, stopReq := false, txDone := false, blankFault := false } s

end Sys2Proof.Machine
end

