-- ==== Sys2Proof/Machine/Dispatch.lean ====
section
/-! DEFINITION. The map from the operations of spec/opcode_table.json to their meanings. -/

namespace Sys2Proof.Machine

def exec (i : Instr) (s : State) : Host.Outcome State Fault Refusal :=
  match i with
  | .reset io => Sys2Proof.Machine.execReset io s
  | .setBrightness io => Sys2Proof.Machine.execSetBrightness io s
  | .readChannel io => Sys2Proof.Machine.execReadChannel io s
  | .stopReq io => Sys2Proof.Machine.execStopReq io s
  | .txDoneOk io => Sys2Proof.Machine.execTxDoneOk io s
  | .txDoneFail io => Sys2Proof.Machine.execTxDoneFail io s
  | .blankFault io => Sys2Proof.Machine.execBlankFault io s
  | .initCheck io => Sys2Proof.Machine.execInitCheck io s
  | .nop io => Sys2Proof.Machine.execNop io s
  | .timerExpire io => Sys2Proof.Machine.execTimerExpire io s
  | .tickAccept io => Sys2Proof.Machine.execTickAccept io s
  | .pulseHold io => Sys2Proof.Machine.execPulseHold io s
  | .pulseEndClean io => Sys2Proof.Machine.execPulseEndClean io s
  | .snapshotSend io => Sys2Proof.Machine.execSnapshotSend io s
  | .encode g => Sys2Proof.Machine.execEncode g s
  | .decode f => Sys2Proof.Machine.execDecode f s

end Sys2Proof.Machine
end

