-- ==== Sys2Proof/WellFormed.lean ====
section
/-! DEFINITION. When an operation is one that an input word can present: its operands fit their ports (30_encoding.md R80,
R82), its selecting bits have the levels its row of R84 gives them, and it is the row that names the word. -/

namespace Sys2Proof

/-- The ids and the value fit the widths of their ports (R80). -/
def Input.fits (p : Params) (io : Input) : Bool :=
  decide (io.wrId < 2 ^ p.idWidth) && decide (io.rdId < 2 ^ p.idWidth) && decide (io.wrVal < 2 ^ p.inWidth)

/-- The rows of R84 that input bits alone select; the decoder names a word after the first of them it selects. -/
def Instr.external : Instr → Bool
  | .reset _ | .setBrightness _ | .readChannel _ | .stopReq _ | .txDoneOk _ | .txDoneFail _ | .blankFault _ | .nop _ => true
  | .initCheck _ | .timerExpire _ | .tickAccept _ | .pulseHold _ | .pulseEndClean _ | .snapshotSend _ => false
  | .encode _ | .decode _ => false

/-- The row's own bits have their levels, and no earlier row of R84's table is selected by the same word.
A step with two rows selected is written as the earlier row, with the other row's bits in its ports. -/
def Instr.selecting : Instr → Bool
  | .reset io => io.rst
  | .setBrightness io => !io.rst && io.wrEn
  | .readChannel io => !io.rst && !io.wrEn && io.rdEn
  | .stopReq io => !io.rst && !io.wrEn && !io.rdEn && io.stopReq
  | .txDoneOk io => !io.rst && !io.wrEn && !io.rdEn && !io.stopReq && io.txDone && io.txOk
  | .txDoneFail io => !io.rst && !io.wrEn && !io.rdEn && !io.stopReq && io.txDone && !io.txOk
  | .blankFault io => !io.rst && !io.wrEn && !io.rdEn && !io.stopReq && !io.txDone && io.blankFault
  | .nop io => !io.rst && !io.wrEn && !io.rdEn && !io.stopReq && !io.txDone && !io.blankFault
  | .initCheck io | .timerExpire io | .tickAccept io | .pulseHold io | .pulseEndClean io | .snapshotSend io => !io.rst
  | .encode _ | .decode _ => true

/-- The operands of a clocked operation fit their ports; ENCODE and DECODE have typed operands. -/
def Instr.operandsFit (p : Params) : Instr → Bool
  | .reset io | .setBrightness io | .readChannel io | .stopReq io | .txDoneOk io | .txDoneFail io | .blankFault io
  | .initCheck io | .nop io | .timerExpire io | .tickAccept io | .pulseHold io | .pulseEndClean io | .snapshotSend io =>
    io.fits p
  | .encode _ | .decode _ => true

/-- Well-formedness of an operation on a core with parameters `p`. -/
def Instr.wf (p : Params) (i : Instr) : Bool := i.operandsFit p && i.selecting

end Sys2Proof
end

