-- ==== Sys2Proof/Decode.lean ====
section
/-! DEFINITION. The input word (30_encoding.md R82): the layout, the operation map of R84, the decoder from a word to the
operation that names it, and after it the encoder. A word is the unsigned number its bits spell; its width
`8 + 2*ID_WIDTH + IN_WIDTH` depends on the parameters. -/

namespace Sys2Proof

/-- The width of an input word (R82). -/
def Params.wordBits (p : Params) : Nat := 8 + 2 * p.idWidth + p.inWidth

/-- Unpacks an input word into the ports it stands for (R82's table, general column). -/
def unpackWord (p : Params) (w : Nat) : Input where
  rst := w.testBit 0
  wrEn := w.testBit 1
  rdEn := w.testBit 2
  stopReq := w.testBit 3
  txDone := w.testBit 4
  txOk := w.testBit 5
  blankFault := w.testBit 6
  resOk := w.testBit 7
  wrId := w / 2 ^ 8 % 2 ^ p.idWidth
  rdId := w / 2 ^ (8 + p.idWidth) % 2 ^ p.idWidth
  wrVal := w / 2 ^ (8 + 2 * p.idWidth) % 2 ^ p.inWidth

/-- Why a word is not decoded. R86 accepts every combination of the word's bits, so only a number too wide for the word
of R82 is no input word (R88: the length of an input word is fixed). -/
inductive DecodeError where
  /-- The number has bits above the width R82 gives the word. -/
  | wordTooWide
deriving DecidableEq, Repr

/-- The operation that names a step with these ports: the first row of R84, in the table's order, that they select.
INIT_CHECK and the operations of R85 depend on the state and are selected in Machine/Select.lean. -/
def operationOf (io : Input) : Instr :=
  if io.rst then .reset io
  else if io.wrEn then .setBrightness io
  else if io.rdEn then .readChannel io
  else if io.stopReq then .stopReq io
  else if io.txDone then (if io.txOk then .txDoneOk io else .txDoneFail io)
  else if io.blankFault then .blankFault io
  else .nop io

/-- The decoder: total on every number. -/
def decodeWord (p : Params) (w : Nat) : Except DecodeError Instr :=
  if w < 2 ^ p.wordBits then .ok (operationOf (unpackWord p w)) else .error .wordTooWide

/-- One row of the operation map: mask and match over the low 8 bits of the word (R84). -/
structure MapRow where
  mnemonic : String
  mask : Nat
  value : Nat
deriving DecidableEq, Repr

/-- R84's table. -/
def operationMap : List MapRow :=
  [⟨"RESET", 0x01, 0x01⟩, ⟨"SET_BRIGHTNESS", 0x03, 0x02⟩, ⟨"READ_CHANNEL", 0x05, 0x04⟩, ⟨"STOP_REQ", 0x09, 0x08⟩,
   ⟨"TX_DONE_OK", 0x31, 0x30⟩, ⟨"TX_DONE_FAIL", 0x31, 0x10⟩, ⟨"BLANK_FAULT", 0x41, 0x40⟩, ⟨"INIT_CHECK", 0x01, 0x00⟩,
   ⟨"NOP", 0x5F, 0x00⟩]

/-- The mnemonics of every row of R84 whose bits the word has: several can be selected in one step. -/
def selectedRows (w : Nat) : List String :=
  (operationMap.filter fun r => w % 256 &&& r.mask == r.value).map (·.mnemonic)

/-- The row's mnemonic in spec/opcode_table.json. -/
def Instr.mnemonic : Instr → String
  | .reset _ => "RESET"
  | .setBrightness _ => "SET_BRIGHTNESS"
  | .readChannel _ => "READ_CHANNEL"
  | .stopReq _ => "STOP_REQ"
  | .txDoneOk _ => "TX_DONE_OK"
  | .txDoneFail _ => "TX_DONE_FAIL"
  | .blankFault _ => "BLANK_FAULT"
  | .initCheck _ => "INIT_CHECK"
  | .nop _ => "NOP"
  | .timerExpire _ => "TIMER_EXPIRE"
  | .tickAccept _ => "TICK_ACCEPT"
  | .pulseHold _ => "PULSE_HOLD"
  | .pulseEndClean _ => "PULSE_END_CLEAN"
  | .snapshotSend _ => "SNAPSHOT_SEND"
  | .encode _ => "ENCODE"
  | .decode _ => "DECODE"

/-- The ports of the step in which the operation happens: `io` with the bits that select the operation (R84's match under
its mask) at their levels. ENCODE and DECODE are functions, not steps. -/
def Instr.ports : Instr → Option Input
  | .reset io => some { io with rst := true }
  | .setBrightness io => some { io with rst := false, wrEn := true }
  | .readChannel io => some { io with rst := false, rdEn := true }
  | .stopReq io => some { io with rst := false, stopReq := true }
  | .txDoneOk io => some { io with rst := false, txDone := true, txOk := true }
  | .txDoneFail io => some { io with rst := false, txDone := true, txOk := false }
  | .blankFault io => some { io with rst := false, blankFault := true }
  | .nop io =>
    some { io with rst := false, wrEn := false, rdEn := false, stopReq := false, txDone := false, blankFault := false }
  | .initCheck io | .timerExpire io | .tickAccept io | .pulseHold io | .pulseEndClean io | .snapshotSend io =>
    some { io with rst := false }
  | .encode _ | .decode _ => none

/-- The input word of a step's ports (R82). -/
def packWord (p : Params) (io : Input) : Nat :=
  io.rst.toNat + 2 * io.wrEn.toNat + 4 * io.rdEn.toNat + 8 * io.stopReq.toNat + 16 * io.txDone.toNat
    + 32 * io.txOk.toNat + 64 * io.blankFault.toNat + 128 * io.resOk.toNat
    + 2 ^ 8 * io.wrId + 2 ^ (8 + p.idWidth) * io.rdId + 2 ^ (8 + 2 * p.idWidth) * io.wrVal

/-- The encoder: the input word of the step in which the operation happens.
ENCODE has no input-word selector (R140) and DECODE is no operation of the core (R146), so neither has a word. -/
def encodeWord (p : Params) (i : Instr) : Option Nat := i.ports.map (packWord p)

/-- The operation the decoder reads from a table row's bits, at the default parameters; bits from `nbits` up are 0.
DEDUCED (notes/assumptions/13.md): a row that the state selects has NOP's word, so it is read as NOP here. -/
def decodeTableWord (nbits w : Nat) : Option Instr := (decodeWord Config.defaults (w % 2 ^ nbits)).toOption

end Sys2Proof
end

