-- ==== Sys2Proof/Machine/Select.lean ====
section
/-! DEFINITION. The state's half of the operation map (30_encoding.md R85, and R84's INIT_CHECK): which operation names a
step whose input word requests nothing, and the fetch of the step's input word (R88). -/

namespace Sys2Proof.Machine

/-- The idle step with resources present (R82, R89): what the ports show in a step the script does not name (R90). -/
def idleWord : Nat := 0x80

/-- The input word of the next step (R88): the script's next word; a step that no script word names is `NOP` (R90).
DESIGN CHOICE, unsafe (notes/assumptions/6.md). -/
def nextWord (s : State) : Nat := s.script.headD idleWord

/-- The state with the next step's input word consumed. -/
def consumeWord (s : State) : State := { s with script := s.script.tail }

/-- The operation that names the step. A word that selects an operation of R84 is named by the decoder; a word that requests
nothing is named by the operation the state selects (INIT_CHECK, then R85's rows), and NOP if it selects none. -/
def selectOperation (s : State) (i : Instr) : Instr :=
  match i with
  | .nop io =>
    if s.st == .init then .initCheck io
    else if tickAcceptSelected io s then .tickAccept io
    else if pulseHoldSelected io s then .pulseHold io
    else if snapshotSendSelected io s then .snapshotSend io
    else if pulseEndCleanSelected io s then .pulseEndClean io
    else if timerExpired s then .timerExpire io
    else .nop io
  | .reset _ | .setBrightness _ | .readChannel _ | .stopReq _ | .txDoneOk _ | .txDoneFail _ | .blankFault _
  | .initCheck _ | .timerExpire _ | .tickAccept _ | .pulseHold _ | .pulseEndClean _ | .snapshotSend _
  | .encode _ | .decode _ => i

/-- Places `w` as the next step's input word; the words of later steps stay. -/
def placeWord (s : State) (w : Nat) : State := { s with script := w :: s.script.tail }

end Sys2Proof.Machine
end

