-- ==== Sys2Proof/Machine/Step.lean ====
section
/-! DEFINITION. One step of the machine: take the next input word, decode it, run the operation that names the step. -/

namespace Sys2Proof.Machine

/-- One step (R10, R88): each step consumes exactly one input word. A number too wide for the word is refused. -/
def step (s : State) : Host.Outcome State Fault Refusal :=
  match decodeWord s.params (nextWord s) with
  | .error .wordTooWide => .refused .inputWordTooWide
  | .ok i => exec (selectOperation s i) (consumeWord s)

/-- `s` with the input word whose low `nbits` bits are `w`'s, and whose other bits are 0, as the next step's word. -/
def State.withFetchWord (s : State) (nbits w : Nat) : State := placeWord s (w % 2 ^ nbits)

end Sys2Proof.Machine
end

