-- ==== Sys2Proof/Machine/Ports.lean ====
section
/-! DEFINITION. The output ports (30_encoding.md R81): registered ones are fields of the state, combinational ones functions
of the state and, for `rd_data`, of the sampled inputs; and the values handed to the collaborators at init (R231). -/

namespace Sys2Proof.Machine

/-- The output ports of R81. -/
structure Outputs where
  blank : Bool
  txReq : Bool
  txData : BitVec 192
  txFail : Bool
  rdData : Gray
  ready : Bool
  quiescent : Bool
  gsclkEn : Bool
  status : BitVec 16
  txerrCnt : BitVec 16
deriving DecidableEq, Repr

/-- What the output ports show in a step with the ports `io` from the state `s` (R81, R53, R112). -/
def outputs (io : Input) (s : State) : Outputs where
  blank := s.blank
  txReq := s.txReq
  txData := frameBits s.fb
  txFail := s.txFail
  rdData := readPort io s
  ready := s.ready
  quiescent := s.quiescent
  gsclkEn := s.gsclkEn
  status := s.status
  txerrCnt := s.txerrCnt

/-- The clock collaborator's `configure(duty_cycle_ns, period_ns)` arguments (R231). -/
def clockConfiguration (p : Params) : ℚ × ℚ := (Config.gsclkDutyNs, gsPeriodNs p)

/-- The GPIO's `configure_as_output(initial_value)` argument (R231). -/
def blankConfiguration (p : Params) : Bool := p.blankInit

/-- At rest (R273): the state changes only through writes, `stop_lat` and the error bits (and see
notes/assumptions/11.md). -/
def atRest (s : State) : Bool := s.quiescent

/-- Steady (R273): IDLE, nothing to send, no tick pending. -/
def steady (s : State) : Bool := s.st == .idle && !s.dirty && !s.tickPend

end Sys2Proof.Machine
end

