-- ==== Sys2Proof/Machine/Script.lean ====
section
/-! DEFINITION. The step script of the test programs (30_encoding.md R89, R90): items, the line of items that is one step,
and the input words of a script. -/

namespace Sys2Proof.Machine

/-- The items of R89. -/
inductive Item where
  | reset
  | wr (c : Nat) (v : Int)
  | rd (c : Nat)
  | done
  | fail
  | stop
  | linkfault
  | cfgbad
  | nop
deriving DecidableEq, Repr

/-- A step before its items: fields no item sets are 0, and `res_ok = 1` (R89). -/
def idlePorts : Input := ⟨false, false, false, false, false, false, false, true, 0, 0, 0⟩

/-- What an item sets (R89); a value is encoded in IN_WIDTH bits, two's complement.
DESIGN CHOICE (notes/assumptions/18.md): a value or an id too wide for its port keeps its low bits. -/
def setItem (p : Params) (io : Input) : Item → Input
  | .reset => { io with rst := true }
  | .wr c v => { io with wrEn := true, wrId := c % 2 ^ p.idWidth, wrVal := (BitVec.ofInt p.inWidth v).toNat }
  | .rd c => { io with rdEn := true, rdId := c % 2 ^ p.idWidth }
  | .done => { io with txDone := true, txOk := true }
  | .fail => { io with txDone := true, txOk := false }
  | .stop => { io with stopReq := true }
  | .linkfault => { io with blankFault := true }
  | .cfgbad => { io with resOk := false }
  | .nop => io

/-- The ports of one line: its items joined by `|` (R89).
DESIGN CHOICE (notes/assumptions/18.md): where two items set one field differently, the later item of the line wins. -/
def linePorts (p : Params) (items : List Item) : Input := items.foldl (setItem p) idlePorts

/-- The input word of one line. -/
def lineWord (p : Params) (items : List Item) : Nat := packWord p (linePorts p items)

/-- `IDLE n` (R90). -/
def idleLines (n : Nat) : List (List Item) := List.replicate n [.nop]

/-- `WRRD c, v, r` (R90). -/
def wrrd (c : Nat) (v : Int) (r : Nat) : List Item := [.wr c v, .rd r]

/-- All items placed at step `j` by `@t item` lines (R90); a step not named has none, which is `NOP`.
DESIGN CHOICE (notes/assumptions/18.md): the items of two lines that name one step join, in the order of the lines. -/
def itemsAt (named : List (Nat × List Item)) (j : Nat) : List Item := (named.filter (·.1 == j)).flatMap (·.2)

/-- `@t item` lines and `RUN t` (R90): the words of steps 0 to `t`. -/
def scriptWords (p : Params) (named : List (Nat × List Item)) (t : Nat) : List Nat :=
  (List.range (t + 1)).map fun j => lineWord p (itemsAt named j)

end Sys2Proof.Machine
end

