-- ==== Sys2Proof/Safety.lean ====
section
/-! DEFINITION. The terms claims are made in: when a clock step has a next state, the invariants of 42_scheduler.md R184 and
20_memory.md R73, and closed forms of what one step does, written from the tables of the spec (R161, R162, R211, R214)
rather than from the machine's rule bodies. -/

namespace Sys2Proof.Machine

/-- A state from which every clock step has a next state: R8 holds of the parameters and no code is a reserved one. -/
structure Operational (s : State) : Prop where
  params : paramsValid s.params = true
  fsm : s.st ≠ .reserved7
  err : s.lastErr.isReserved = false

/-- The FSM states in which the timer runs (R184 (c)). -/
abbrev FsmState.Running (st : FsmState) : Prop := st = .idle ∨ st = .pulse ∨ st = .xmit

/-- The terminal FSM states (R183). -/
abbrev FsmState.Terminal (st : FsmState) : Prop := st = .stopped ∨ st = .halted ∨ st = .cfgfail

/-- The states the rules can lead to: R184's invariants and what the state elements' own rules say of them. -/
structure Coherent (s : State) : Prop extends Operational s where
  /-- R184 (a). -/
  xmit_iff_request : s.st = .xmit ↔ s.txReq = true
  /-- R184 (b). -/
  xmit_dirty : s.st = .xmit → s.dirty = true
  /-- R184 (c). -/
  timer_iff_running : s.tmrRun = true ↔ s.st.Running
  /-- R38, R161: the counter's range. -/
  tmr_range : s.tmr < s.params.periodCycles
  /-- R37, R170: the counter's range. -/
  pcnt_range : s.pcnt < s.params.pulseCycles
  /-- R39: a held expiry belongs to a running timer. -/
  pend_running : s.tickPend = true → s.st.Running
  /-- R171: BLANK is high in every PULSE step. -/
  pulse_blank : s.st = .pulse → s.blank = true
  /-- R34, R35: every write since the snapshot has marked the device dirty. -/
  wsnap_dirty : s.wsnap = true → s.dirty = true
  /-- R184 (f): `tx_fail` follows a completion, which left XMIT. -/
  fail_after_xmit : s.txFail = true → s.st = .idle ∨ s.st = .stopped
  /-- R178: STOPPED is entered on a teardown request, which is latched. -/
  stopped_latched : s.st = .stopped → s.stopLat = true
  /-- R182: nothing is reported in CFGFAIL. -/
  cfgfail_reported : s.st = .cfgfail → s.lastErr = .raised .configurationError
  /-- R211: a reported INVALID_CHANNEL has set its sticky bit. -/
  invalid_sticky : s.lastErr = .raised .invalidChannel → s.errInv = true
  /-- R211: a reported PROTOCOL_VIOLATION has set its sticky bit. -/
  protocol_sticky : s.lastErr = .raised .protocolViolation → s.errProto = true
  /-- R211: a reported TRANSPORT_ERROR has been counted. -/
  transport_counted : s.lastErr = .raised .transportError → s.txerrCnt ≠ 0

/-- R73, R184: while no register was written since the snapshot, the framebuffer is the encoding of the registers, and a
clean device has no such write. So a clean device has transmitted what its registers hold. -/
structure NothingLost (s : State) : Prop where
  frame_current : s.wsnap = false → s.fb = encodeFrame s.gs
  marked : s.wsnap = true → s.dirty = true

/-- R184 (d) once a tick has been accepted: BLANK is high exactly in PULSE, HALTED aside. -/
def BlankFollowsPulse (s : State) : Prop :=
  (s.st = .pulse → s.blank = true) ∧ (s.st = .idle ∨ s.st = .xmit ∨ s.st = .stopped → s.blank = false)

/-- An input word that requests neither a reset nor a teardown and reports no link fault. -/
def QuietWord (p : Params) (w : Nat) : Prop :=
  w < 2 ^ p.wordBits ∧ (unpackWord p w).rst = false ∧ (unpackWord p w).stopReq = false
    ∧ (unpackWord p w).blankFault = false

/-- The word of the `n`-th step from now (R88, R90). -/
def wordAt (script : List Nat) (n : Nat) : Nat := script.getD n idleWord

/-! ### What one step does, from the spec's tables -/

/-- INVALID_CHANNEL's condition (R211). -/
def invalidAccess (io : Input) (s : State) : Bool :=
  s.ready && ((io.wrEn && decide (16 ≤ io.wrId)) || (io.rdEn && decide (16 ≤ io.rdId)))

/-- PROTOCOL_VIOLATION's condition (R211). -/
def strayDone (io : Input) (s : State) : Bool :=
  io.txDone && decide (s.st = .init ∨ s.st = .idle ∨ s.st = .pulse ∨ s.st = .stopped)

/-- The causes of a step without `rst`, by R211's conditions, in R214's order. -/
def causesOf (io : Input) (s : State) : List Cause :=
  (if s.st = .init ∧ (io.resOk = false ∨ io.blankFault = true) then [.configurationError] else [])
    ++ (if s.st.Running ∧ io.blankFault = true then [.hardwareLinkError] else [])
    ++ (if s.st = .xmit ∧ io.txDone = true ∧ io.txOk = false ∧ io.blankFault = false then [.transportError] else [])
    ++ (if strayDone io s = true then [.protocolViolation] else [])
    ++ (if invalidAccess io s = true then [.invalidChannel] else [])

/-- `last_err` after a step without `rst` (R214). -/
def errAfter (io : Input) (s : State) : ErrCode :=
  match causesOf io s with
  | [] => s.lastErr
  | c :: _ => .raised c

/-- Everything a step without `rst` does outside the scheduler: the accesses (R111, R112), the sticky bits (R44, R45), the
teardown latch (R178), `last_err` (R214), and that the model's own fields stay. -/
structure RegistrySide (io : Input) (s t : State) : Prop where
  gs : ∀ (c : Nat) (h : c < 16),
    t.gs[c] = if writeAccepted io s = true ∧ io.wrId = c then scaleClamp s.params (inputValue s.params io.wrVal) else s.gs[c]
  rdData : t.rdData = readPort io s
  errInv : t.errInv = (s.errInv || invalidAccess io s)
  errProto : t.errProto = (s.errProto || strayDone io s)
  stopLat : t.stopLat = (s.stopLat || io.stopReq)
  lastErr : t.lastErr = errAfter io s
  params : t.params = s.params
  script : t.script = s.script
  encOut : t.encOut = s.encOut
  decOut : t.decOut = s.decOut

/-- The scheduler's part of the state: with `RegistrySide`'s fields, all of it. -/
structure Sched where
  st : FsmState
  pcnt : Nat
  tmr : Nat
  tmrRun : Bool
  tickPend : Bool
  ovr : Bool
  blank : Bool
  fb : Frame
  txReq : Bool
  txFail : Bool
  txerrCnt : BitVec 16
  dirty : Bool
  wsnap : Bool
deriving DecidableEq, Repr

/-- The scheduler's part of a state. -/
def State.sched (s : State) : Sched :=
  ⟨s.st, s.pcnt, s.tmr, s.tmrRun, s.tickPend, s.ovr, s.blank, s.fb, s.txReq, s.txFail, s.txerrCnt, s.dirty, s.wsnap⟩

/-- The period counter after a step (R161). -/
def countedTmr (s : State) : Nat :=
  if s.tmrRun then (if s.tmr = 0 then s.params.periodCycles - 1 else s.tmr - 1) else s.tmr

/-- What a step writes in the scheduler's part when no FSM rule acts: the counter (R161), the end of a `tx_fail` pulse (R43)
and the marks of an accepted write (R111). -/
def steppedSched (io : Input) (s : State) : Sched :=
  { s.sched with
    tmr := countedTmr s
    txFail := false
    dirty := s.dirty || writeAccepted io s
    wsnap := s.wsnap || writeAccepted io s }

/-- The same with an expiry of this step held (R162). -/
def heldSched (io : Input) (s : State) : Sched :=
  { steppedSched io s with
    tickPend := s.tickPend || timerExpired s
    ovr := s.ovr || (timerExpired s && s.tickPend) }

/-- `EnterStopped` (R178). -/
def Sched.toStopped (q : Sched) : Sched := { q with st := .stopped, tmrRun := false, tickPend := false }

/-- `LinkFault` (R180). -/
def Sched.toHalted (q : Sched) : Sched := { q with st := .halted, tmrRun := false, tickPend := false, txReq := false }

/-- The scheduler's part after a step without `rst` in which a teardown is requested, now or earlier (R178): IDLE stops at
once, a pulse in its last step with no transmit, a transaction at its completion; a link fault comes first (R180), INIT goes
on (R168), and the terminal states do nothing. -/
def stoppingSched (io : Input) (s : State) : Sched :=
  match s.st with
  | .init =>
    if io.resOk = true ∧ io.blankFault = false then
      { steppedSched io s with st := .idle, tmrRun := true, tmr := s.params.periodCycles - 1 }
    else { steppedSched io s with st := .cfgfail }
  | .idle => if io.blankFault then (steppedSched io s).toHalted else (steppedSched io s).toStopped
  | .pulse =>
    if io.blankFault then (steppedSched io s).toHalted
    else if 0 < s.pcnt then { heldSched io s with pcnt := s.pcnt - 1 }
    else { (heldSched io s).toStopped with blank := false }
  | .xmit =>
    if io.blankFault then (steppedSched io s).toHalted
    else if io.txDone then
      if io.txOk then
        { (heldSched io s).toStopped with txReq := false, dirty := writeAccepted io s || s.wsnap }
      else
        { (heldSched io s).toStopped with txReq := false, txFail := true, txerrCnt := sat16 (s.txerrCnt.toNat + 1) }
    else heldSched io s
  | .stopped | .halted | .cfgfail | .reserved7 => steppedSched io s

/-- The FSM state after a step without `rst`: R160's transition table. -/
def fsmAfter (io : Input) (s : State) : FsmState :=
  match s.st with
  | .init => if io.resOk = true ∧ io.blankFault = false then .idle else .cfgfail
  | .idle =>
    if io.blankFault then .halted
    else if stopRequested io s then .stopped
    else if timerExpired s || s.tickPend then .pulse
    else .idle
  | .pulse =>
    if io.blankFault then .halted
    else if 0 < s.pcnt then .pulse
    else if stopRequested io s then .stopped
    else if s.dirty then .xmit
    else .idle
  | .xmit =>
    if io.blankFault then .halted
    else if io.txDone then (if stopRequested io s then .stopped else .idle)
    else .xmit
  | st => st

end Sys2Proof.Machine
end

