-- ==== Sys2Proof/Certificates/Slice0/Obligations.lean ====
section
/-! DEFINITION. The statements about the model. Each docstring names the rule of spec/ it formalises. -/

open Sys2Proof Sys2Proof.Machine

/-! ### Encoding -/

/-- Words written out in the spec decode to the operations they stand for (R82, R84, R89 and the vectors of
95_test_vectors.md: V-RST, V-W2, V-W8, S6, S22, S25, S3, the idle word, V-W10).
R84 selects two rows of the last word; that it is named SET_BRIGHTNESS is the model's choice, notes/assumptions/3.md. -/
def Obligations.WrittenWordsDecodeToTheirOperations : Prop :=
  let q := Config.defaults
  decodeWord q 0x00000000000081 = .ok (.reset { idlePorts with rst := true })
    ∧ decodeWord q 0x00011170000482 = .ok (.setBrightness { idlePorts with wrEn := true, wrId := 4, wrVal := 70000 })
    ∧ decodeWord q 0x00000000090084 = .ok (.readChannel { idlePorts with rdEn := true, rdId := 9 })
    ∧ decodeWord q 0x00000000000088 = .ok (.stopReq { idlePorts with stopReq := true })
    ∧ decodeWord q 0x000000000000B0 = .ok (.txDoneOk { idlePorts with txDone := true, txOk := true })
    ∧ decodeWord q 0x00000000000090 = .ok (.txDoneFail { idlePorts with txDone := true })
    ∧ decodeWord q 0x000000000000C0 = .ok (.blankFault { idlePorts with blankFault := true })
    ∧ decodeWord q 0x00000000000080 = .ok (.nop idlePorts)
    ∧ decodeWord q 0x00000123090986
        = .ok (.setBrightness { idlePorts with wrEn := true, rdEn := true, wrId := 9, rdId := 9, wrVal := 0x123 })

/-- Decoding the word of a well-formed operation that input bits select gives the operation back, at every parameter
setting: no bit of R82's layout is dropped. -/
def Obligations.DecodeOfEncodeIsTheOperation : Prop :=
  ∀ (p : Params) (i : Instr), i.external = true → i.wf p = true →
    ∃ w, encodeWord p i = some w ∧ w < 2 ^ p.wordBits ∧ decodeWord p w = .ok i

/-- Every word of R82's width is a well-formed operation's word (R86: every combination of input-word bits is accepted). -/
def Obligations.EncodeOfDecodeIsTheWord : Prop :=
  ∀ (p : Params) (w : Nat), w < 2 ^ p.wordBits →
    ∃ i, decodeWord p w = .ok i ∧ i.external = true ∧ i.wf p = true ∧ encodeWord p i = some w

/-- The operation that names a word is one whose mask and match of R84 the word has. -/
def Obligations.DecodedOperationIsSelectedByItsRow : Prop :=
  ∀ (p : Params) (w : Nat) (i : Instr), decodeWord p w = .ok i → i.mnemonic ∈ selectedRows w

/-- A number too wide for the input word is refused by name and changes nothing (R88).
The refusal is the model's choice: notes/assumptions/7.md. -/
def Obligations.TooWideWordIsRefused : Prop :=
  ∀ s : State, 2 ^ s.params.wordBits ≤ nextWord s → step s = .refused .inputWordTooWide

/-! ### The step -/

/-- A step consumes one input word (R88) and runs the operation the word decodes to, at the state without that word. -/
def Obligations.StepRunsTheDecodedOperation : Prop :=
  ∀ (s : State) (i : Instr), decodeWord s.params (nextWord s) = .ok i →
    step s = exec i { s with script := s.script.tail }

/-- R200: "every other operation rule is a view of it". Each operation that happens in a clock step does exactly what the
whole step does with the operation's ports, through whichever rule bodies its own meaning takes.
Two clauses are the model's choices: that the selecting bits count as asserted (notes/assumptions/3.md), and that an internal
operation at a state that does not select it is the ordinary edge (notes/assumptions/14.md). -/
def Obligations.EveryOperationIsAViewOfTheStep : Prop :=
  ∀ (i : Instr) (io : Input) (s : State), i.ports = some io → exec i s = clockEdge io s

/-- R201, R214: from an operational state every step without `rst` has a next state, and the accesses, the sticky bits, the
teardown latch and `last_err` come out by R111, R112, R177, R178 and R211's conditions in R214's order, whatever the FSM does. -/
def Obligations.AccessesHappenBesideEveryFsmRule : Prop :=
  ∀ (io : Input) (s : State), Operational s → io.rst = false → ∃ t, clockEdge io s = .next t ∧ RegistrySide io s t

/-- R160: the FSM follows the transition table, in every step without `rst`. -/
def Obligations.FsmFollowsTheTransitionTable : Prop :=
  ∀ (io : Input) (s : State), Operational s → io.rst = false →
    ∃ t, clockEdge io s = .next t ∧ t.st = fsmAfter io s

/-- R161: in every step without `rst` the period counter reloads at its own expiry, counts down otherwise and holds while
stopped, whatever the FSM does; no FSM rule writes it but INIT's successful check, which starts it (R168). -/
def Obligations.PeriodCounterRunsByItself : Prop :=
  ∀ (io : Input) (s : State), Operational s → io.rst = false →
    ∃ t, clockEdge io s = .next t
      ∧ t.tmr =
        if s.st = .init ∧ io.resOk = true ∧ io.blankFault = false then s.params.periodCycles - 1
        else if s.tmrRun = true ∧ s.tmr = 0 then s.params.periodCycles - 1
        else if s.tmrRun = true then s.tmr - 1
        else s.tmr

/-- R86, 93_implementation_defined.md I11: the bits no rule reads make no difference. -/
def Obligations.UnusedPortsMakeNoDifference : Prop :=
  ∀ (a b : Input) (s : State),
    a.rst = b.rst → a.wrEn = b.wrEn → a.rdEn = b.rdEn → a.stopReq = b.stopReq → a.txDone = b.txDone →
    a.blankFault = b.blankFault →
    (a.txDone = true → a.txOk = b.txOk) → (s.st = .init → a.resOk = b.resOk) →
    (a.wrEn = true → a.wrId = b.wrId ∧ a.wrVal = b.wrVal) → (a.rdEn = true → a.rdId = b.rdId) →
    clockEdge a s = clockEdge b s

/-- No operation changes the parameters (R51), and a step leaves the script without its first word (R88). -/
def Obligations.ParametersNeverChange : Prop :=
  (∀ (i : Instr) (s t : State), exec i s = .next t → t.params = s.params ∧ t.script = s.script)
    ∧ ∀ s t : State, step s = .next t → t.params = s.params ∧ t.script = s.script.tail

/-- R36, R210 with I9, I10: a step without `rst` that meets a reserved code is a fault. -/
def Obligations.ReservedCodesFault : Prop :=
  ∀ (i : Instr) (io : Input) (s : State), i.ports = some io → io.rst = false → paramsValid s.params = true →
    (s.st = .reserved7 → exec i s = .fault .reservedFsmCode)
      ∧ (s.st ≠ .reserved7 → s.lastErr = .reserved6 ∨ s.lastErr = .reserved7 → exec i s = .fault .reservedErrCode)

/-- R7, R8, R268: a core whose parameters break a constraint has no meaning for any clock step. -/
def Obligations.BrokenConfigurationIsRefused : Prop :=
  ∀ (i : Instr) (io : Input) (s : State), i.ports = some io →
    (s.params.pulseCycles = 0 ∨ s.params.periodCycles ≤ s.params.pulseCycles ∨ s.params.idWidth < 4
      ∨ s.params.inWidth = 0 ∨ s.params.scaleShift < -(s.params.inWidth : Int) ∨ 12 < s.params.scaleShift) →
    exec i s = .refused .configuration

/-! ### RESET and initialization -/

/-- R250: a step with `rst = 1` loads `ResetState` from any state, whatever the other inputs; its fields, the outputs of the
next step, and the word bit that selects it; a core in `ResetState` stays there; and nothing else leaves a terminal state. -/
def Obligations.ResetLoadsTheResetState : Prop :=
  (∀ (io : Input) (s : State), paramsValid s.params = true →
    ∃ t, exec (.reset io) s = .next t
      ∧ (∀ (c : Nat) (h : c < 16), t.gs[c] = 0) ∧ (∀ (j : Nat) (h : j < 24), t.fb[j] = 0)
      ∧ t.dirty = true ∧ t.wsnap = false ∧ t.st = .init ∧ t.pcnt = 0 ∧ t.tmr = 0 ∧ t.tmrRun = false
      ∧ t.tickPend = false ∧ t.blank = s.params.blankInit ∧ t.txReq = false ∧ t.txFail = false ∧ t.stopLat = false
      ∧ t.errInv = false ∧ t.errProto = false ∧ t.ovr = false ∧ t.txerrCnt = 0 ∧ t.lastErr = .none ∧ t.rdData = 0
      ∧ t.params = s.params ∧ t.script = s.script
      ∧ (∀ io' : Input, let o := outputs io' t
          o.blank = s.params.blankInit ∧ o.txReq = false ∧ o.txFail = false ∧ o.ready = false ∧ o.quiescent = false
            ∧ o.gsclkEn = false ∧ o.txerrCnt = 0 ∧ o.status = if s.params.blankInit then 0x0088 else 0x0008))
  ∧ (∀ (p : Params) (w : Nat), w < 2 ^ p.wordBits → (w.testBit 0 = true ↔ decodeWord p w = .ok (.reset (unpackWord p w))))
  ∧ (∀ (io : Input) (p : Params) (l : List Nat), paramsValid p = true → ∃ t, exec (.reset io) (State.resetOf p l) = .next t
      ∧ t = State.resetOf p l)
  ∧ ∀ (i : Instr) (s t : State), s.st.Terminal → exec i s = .next t → t.st ≠ s.st →
      ∃ io, i.ports = some io ∧ io.rst = true

/-- R168: INIT_CHECK starts the timer and goes to IDLE when the resources are present, and to CFGFAIL otherwise; accesses are
ignored, a stop is latched, a completion is a protocol violation. -/
def Obligations.InitCheckStartsTheTimerOrFails : Prop :=
  ∀ (io : Input) (s : State), Operational s → s.st = .init →
    ∃ t, exec (.initCheck io) s = .next t ∧ RegistrySide { io with rst := false } s t ∧ t.gs = s.gs ∧ t.errInv = s.errInv
      ∧ t.stopLat = (s.stopLat || io.stopReq) ∧ t.errProto = (s.errProto || io.txDone)
      ∧ t.sched =
        if io.resOk = true ∧ io.blankFault = false then
          { s.sched with st := .idle, tmrRun := true, tmr := s.params.periodCycles - 1, txFail := false }
        else { s.sched with st := .cfgfail, tmr := countedTmr s, txFail := false }

/-! ### Channel registry -/

/-- R111: SET_BRIGHTNESS beside the same step without the write. A valid id while `ready` writes ScaleClamp of the value into
that one register and marks the device dirty; an invalid id writes only `err_inv` and, where the step raised no other cause,
`last_err`; while not `ready` it has no effect at all. -/
def Obligations.SetBrightnessWritesOneChannel : Prop :=
  ∀ (io : Input) (s : State), Operational s →
    ∃ u, clockEdge { io with rst := false, wrEn := false } s = .next u ∧ u.gs = s.gs
      ∧ exec (.setBrightness io) s = .next
        (if s.ready = true then
          if h : io.wrId < 16 then
            { u with
              gs := s.gs.set io.wrId (scaleClamp s.params (inputValue s.params io.wrVal)) h
              dirty := true
              wsnap := true }
          else
            { u with
              errInv := true
              lastErr := if causesOf { io with rst := false, wrEn := false } s = [] then .raised .invalidChannel
                else u.lastErr }
        else u)

/-- R112, R71: READ_CHANNEL beside the same step without the read. A valid id while `ready` shows the register as it was
before the step, even where the step writes it; an invalid id shows 0, sets `err_inv` and, where the step raised no other
cause, `last_err`; while not `ready` it shows 0. -/
def Obligations.ReadChannelShowsTheOldValue : Prop :=
  ∀ (io : Input) (s : State), Operational s →
    ∃ u, clockEdge { io with rst := false, rdEn := false } s = .next u ∧ u.rdData = 0
      ∧ exec (.readChannel io) s = .next
        (if s.ready = true then
          if h : io.rdId < 16 then { u with rdData := s.gs[io.rdId] }
          else
            { u with
              errInv := true
              lastErr := if causesOf { io with rst := false, rdEn := false } s = [] then .raised .invalidChannel
                else u.lastErr }
        else u)

/-- R114: a channel register changes only in a step with `rst` or with an accepted SET_BRIGHTNESS for its id. -/
def Obligations.ChannelsChangeOnlyByAcceptedWrites : Prop :=
  ∀ (i : Instr) (s t : State) (c : Nat) (h : c < 16), exec i s = .next t → t.gs[c] ≠ s.gs[c] →
    ∃ io, i.ports = some io ∧ (io.rst = true ∨ (io.wrEn = true ∧ s.ready = true ∧ io.wrId = c))

/-- R115: ScaleClamp is total and monotonic, its result is in [0, 4095], and it is the nearest bound wherever the scaled value
is outside; so an accepted SET_BRIGHTNESS whose scaled value is outside stores exactly the nearest bound. -/
def Obligations.ScaleClampIsMonotoneAndNearest : Prop :=
  ∀ (p : Params) (v : Int),
    (scaleClamp p v).toNat ≤ 4095
      ∧ (scaled p v < 0 → (scaleClamp p v).toNat = 0) ∧ (4095 < scaled p v → (scaleClamp p v).toNat = 4095)
      ∧ (0 ≤ scaled p v → scaled p v ≤ 4095 → ((scaleClamp p v).toNat : Int) = scaled p v)
      ∧ (∀ v' : Int, v ≤ v' → (scaleClamp p v).toNat ≤ (scaleClamp p v').toNat)
      ∧ ∀ (io : Input) (s : State) (h : io.wrId < 16), Operational s → s.ready = true →
          ∃ t, exec (.setBrightness io) s = .next t
            ∧ (scaled s.params (inputValue s.params io.wrVal) < 0 → t.gs[io.wrId] = 0)
            ∧ (4095 < scaled s.params (inputValue s.params io.wrVal) → t.gs[io.wrId] = 4095)

/-- R110's scaling: a left shift multiplies exactly; a right shift rounds toward minus infinity. -/
def Obligations.ScalingIsAnExactShift : Prop :=
  ∀ (p : Params) (v : Int) (k : Nat),
    (p.scaleShift = (k : Int) → scaled p v = v * 2 ^ k)
      ∧ (p.scaleShift = -(k : Int) → scaled p v * 2 ^ k ≤ v ∧ v < (scaled p v + 1) * 2 ^ k)

/-- R83: `wr_val` is read as two's complement of IN_WIDTH bits, or as an unsigned number. -/
def Obligations.WriteValueIsReadByItsSign : Prop :=
  ∀ (p : Params) (raw : Nat), raw < 2 ^ p.inWidth →
    inputValue p raw = if p.inSigned = true ∧ 2 ^ p.inWidth ≤ 2 * raw then (raw : Int) - 2 ^ p.inWidth else raw

/-! ### Frame encoder -/

/-- R140: ENCODE gives, for each k in 0..7, the three bytes of the triple, and changes nothing else. -/
def Obligations.EncodePacksEachTriple : Prop :=
  ∀ (g : Channels) (s : State),
    ∃ f : Frame, exec (.encode g) s = .next { s with encOut := f }
      ∧ ∀ (k : Nat) (h : k < 8),
        f[3 * k] = (g[2 * k]).extractLsb' 4 8
          ∧ f[3 * k + 1] = (g[2 * k]).extractLsb' 0 4 ++ (g[2 * k + 1]).extractLsb' 8 4
          ∧ f[3 * k + 2] = (g[2 * k + 1]).extractLsb' 0 8

/-- R146's pseudocode: DECODE takes channel 2k from a byte and a high nibble, channel 2k+1 from a low nibble and a byte, and
changes nothing else. -/
def Obligations.DecodeUnpacksEachTriple : Prop :=
  ∀ (f : Frame) (s : State),
    ∃ g : Channels, exec (.decode f) s = .next { s with decOut := g }
      ∧ ∀ (k : Nat) (h : k < 8),
        g[2 * k] = f[3 * k] ++ (f[3 * k + 1]).extractLsb' 4 4
          ∧ g[2 * k + 1] = (f[3 * k + 1]).extractLsb' 0 4 ++ f[3 * k + 2]

/-- R146: Decode unpacks each triple; Encode and Decode are inverse to each other, so Encode is a bijection; and the two
uniform frames. -/
def Obligations.EncodeAndDecodeAreInverse : Prop :=
  (∀ (f : Frame) (k : Nat) (h : k < 8),
      (decodeFrame f)[2 * k] = f[3 * k] ++ (f[3 * k + 1]).extractLsb' 4 4
        ∧ (decodeFrame f)[2 * k + 1] = (f[3 * k + 1]).extractLsb' 0 4 ++ f[3 * k + 2])
    ∧ (∀ g : Channels, decodeFrame (encodeFrame g) = g) ∧ (∀ f : Frame, encodeFrame (decodeFrame f) = f)
    ∧ Function.Bijective encodeFrame
    ∧ encodeFrame (Vector.replicate 16 0) = Vector.replicate 24 0
    ∧ encodeFrame (Vector.replicate 16 0xFFF) = Vector.replicate 24 0xFF

/-- R141: the frame is the concatenation of the channels, channel 0 in the most significant place; channel c occupies
`F[191-12c : 180-12c]` and byte j occupies `F[191-8j : 184-8j]`. -/
def Obligations.FrameIsTheConcatenationOfTheChannels : Prop :=
  ∀ g : Channels,
    frameBits (encodeFrame g) = channelBits g
      ∧ (∀ (c : Nat) (h : c < 16), (frameBits (encodeFrame g)).extractLsb' (180 - 12 * c) 12 = g[c])
      ∧ ∀ (j : Nat) (h : j < 24), (frameBits (encodeFrame g)).extractLsb' (184 - 8 * j) 8 = (encodeFrame g)[j]

/-- R32, R144, R184 (e): the framebuffer changes only in a reset or, whole, in a last pulse step that finds the device dirty
with no stop and no link fault; it then holds Encode of the registers before the step. -/
def Obligations.FramebufferIsOnlyRewrittenWhole : Prop :=
  ∀ (i : Instr) (s t : State), exec i s = .next t → t.fb ≠ s.fb →
    ∃ io, i.ports = some io
      ∧ (io.rst = true ∨ (s.st = .pulse ∧ s.pcnt = 0 ∧ s.dirty = true ∧ stopRequested io s = false
          ∧ io.blankFault = false ∧ t.fb = encodeFrame s.gs))

/-! ### Scheduler -/

/-- R178, R266: STOP_REQ is latched in every state and taken as `stoppingSched` says; and a request latched in an earlier
step is taken just so by every operation without `rst`, with no new request. -/
def Obligations.StopRequestIsLatchedAndTaken : Prop :=
  (∀ (io : Input) (s : State), Operational s →
    ∃ t, exec (.stopReq io) s = .next t ∧ RegistrySide { io with rst := false, stopReq := true } s t ∧ t.stopLat = true
      ∧ t.sched = stoppingSched { io with rst := false, stopReq := true } s)
    ∧ ∀ (i : Instr) (io : Input) (s : State), Operational s → i.ports = some io → io.rst = false → s.stopLat = true →
        ∃ t, exec i s = .next t ∧ RegistrySide io s t ∧ t.stopLat = true ∧ t.sched = stoppingSched io s

/-- R174: in XMIT without a link fault TX_DONE_OK drops the request, clears `dirty` only if nothing was written since the
snapshot, and leaves for STOPPED on a teardown request and for IDLE otherwise. -/
def Obligations.TransmitSuccessClearsDirtyIfNothingWritten : Prop :=
  ∀ (io : Input) (s : State), Operational s → s.st = .xmit → io.blankFault = false →
    ∃ t, exec (.txDoneOk io) s = .next t
      ∧ RegistrySide { io with rst := false, txDone := true, txOk := true } s t
      ∧ t.sched =
        let q := { heldSched io s with txReq := false, dirty := writeAccepted io s || s.wsnap }
        if stopRequested io s then q.toStopped else { q with st := .idle }

/-- R175: in XMIT without a link fault TX_DONE_FAIL drops the request, counts the failure up to 65,535, pulses `tx_fail` and
leaves `dirty` set. -/
def Obligations.TransmitFailureIsCountedAndKeepsDirty : Prop :=
  ∀ (io : Input) (s : State), Operational s → s.st = .xmit → io.blankFault = false →
    ∃ t, exec (.txDoneFail io) s = .next t
      ∧ RegistrySide { io with rst := false, txDone := true, txOk := false } s t
      ∧ t.lastErr = .raised .transportError
      ∧ t.sched =
        let q := { heldSched io s with
          txReq := false
          txFail := true
          txerrCnt := if s.txerrCnt = 0xFFFF then 0xFFFF else s.txerrCnt + 1 }
        if stopRequested io s then q.toStopped else { q with st := .idle }

/-- R177: a completion in INIT, IDLE, PULSE or STOPPED sets `err_proto`, joins the step's causes and does nothing else; in
HALTED and CFGFAIL, and in XMIT beside a link fault (R180), it does nothing at all. -/
def Obligations.StrayCompletionIsReportedAndIgnored : Prop :=
  ∀ (io : Input) (s : State) (ok : Bool), Operational s → (s.st = .xmit → io.blankFault = true) →
    let i := if ok then Instr.txDoneOk io else Instr.txDoneFail io
    ∃ u, clockEdge { io with rst := false, txDone := false } s = .next u
      ∧ exec i s = .next
        (if s.st = .init ∨ s.st = .idle ∨ s.st = .pulse ∨ s.st = .stopped then
          { u with errProto := true, lastErr := errAfter { io with rst := false, txDone := true, txOk := ok } s }
        else u)

/-- R180, R168, R179, R181, R182: a link fault halts IDLE, PULSE and XMIT before anything else of the FSM happens: `blank`
and `fb` hold, a completion is ignored, `dirty` is not cleared; in INIT it is a configuration failure; in STOPPED, HALTED and
CFGFAIL it is ignored. -/
def Obligations.LinkFaultHaltsTheScheduler : Prop :=
  ∀ (io : Input) (s : State), Operational s →
    ∃ t, exec (.blankFault io) s = .next t ∧ RegistrySide { io with rst := false, blankFault := true } s t
      ∧ (s.st.Running → t.lastErr = .raised .hardwareLinkError)
      ∧ t.sched =
        match s.st with
        | .idle | .pulse | .xmit => (steppedSched io s).toHalted
        | .init => { steppedSched io s with st := .cfgfail }
        | .stopped | .halted | .cfgfail | .reserved7 => steppedSched io s

/-- R161, R162, R169: at an expiry the counter reloads; IDLE accepts the tick unless a stop or a link fault discards it; PULSE
and XMIT hold it and record one that was held already. -/
def Obligations.TimerExpiryReloadsAndIsHeld : Prop :=
  ∀ (io : Input) (s : State), Operational s → s.tmrRun = true → s.tmr = 0 →
    ∃ t, exec (.timerExpire io) s = .next t ∧ RegistrySide { io with rst := false } s t
      ∧ t.tmr = s.params.periodCycles - 1
      ∧ (s.st = .idle → io.blankFault = false → stopRequested io s = false → t.st = .pulse ∧ t.tickPend = false)
      ∧ (s.st = .pulse ∨ s.st = .xmit → io.blankFault = false →
          t.ovr = (s.ovr || s.tickPend) ∧ (t.tickPend = true ↔ t.st ≠ .stopped))
      ∧ (s.st = .idle → io.blankFault = true ∨ stopRequested io s = true → t.tickPend = false ∧ t.ovr = s.ovr)
      ∧ t.txerrCnt = (if s.st = .xmit ∧ io.blankFault = false ∧ io.txDone = true ∧ io.txOk = false then
          sat16 (s.txerrCnt.toNat + 1) else s.txerrCnt)

/-- R170: TICK_ACCEPT raises BLANK, loads the pulse counter and consumes the pending tick, whatever `dirty` and the transport
say. -/
def Obligations.TickAcceptStartsThePulse : Prop :=
  ∀ (io : Input) (s : State), Operational s → s.st = .idle → (s.tmrRun = true ∧ s.tmr = 0) ∨ s.tickPend = true →
    s.stopLat = false → io.stopReq = false → io.blankFault = false →
    ∃ t, exec (.tickAccept io) s = .next t ∧ RegistrySide { io with rst := false } s t
      ∧ t.sched =
        { steppedSched io s with
          st := .pulse
          blank := true
          pcnt := s.params.pulseCycles - 1
          tickPend := false
          ovr := s.ovr || (timerExpired s && s.tickPend) }

/-- R171: PULSE_HOLD counts one pulse step and keeps BLANK high, a stop request or not. -/
def Obligations.PulseHoldKeepsBlankHigh : Prop :=
  ∀ (io : Input) (s : State), Operational s → s.st = .pulse → 0 < s.pcnt → io.blankFault = false →
    ∃ t, exec (.pulseHold io) s = .next t ∧ RegistrySide { io with rst := false } s t
      ∧ t.sched = { heldSched io s with pcnt := s.pcnt - 1 }

/-- R173: PULSE_END_CLEAN lowers BLANK and returns to IDLE; no transaction starts.
R173 says that `wsnap` is unchanged, but a write accepted in the step marks it by R111 and R200's phase (4): DEDUCED,
notes/assumptions/11.md. -/
def Obligations.CleanPulseEndReturnsToIdle : Prop :=
  ∀ (io : Input) (s : State), Operational s → s.st = .pulse → s.pcnt = 0 → s.dirty = false → s.stopLat = false →
    io.stopReq = false → io.blankFault = false →
    ∃ t, exec (.pulseEndClean io) s = .next t ∧ RegistrySide { io with rst := false } s t
      ∧ t.sched = { heldSched io s with blank := false, st := .idle }

/-- R172: SNAPSHOT_SEND writes Encode of the registers before the step into the framebuffer, raises the request, restarts
`wsnap`, and leaves `dirty` set. -/
def Obligations.SnapshotSendStartsTheTransaction : Prop :=
  ∀ (io : Input) (s : State), Operational s → s.st = .pulse → s.pcnt = 0 → s.dirty = true → s.stopLat = false →
    io.stopReq = false → io.blankFault = false →
    ∃ t, exec (.snapshotSend io) s = .next t ∧ RegistrySide { io with rst := false } s t
      ∧ t.sched =
        { heldSched io s with
          blank := false
          st := .xmit
          txReq := true
          fb := encodeFrame s.gs
          dirty := true
          wsnap := writeAccepted io s }

/-- R200, R265: NOP writes no register and reports nothing but INIT's configuration failure; IDLE with no tick and no stop, and
the terminal states, only count and end a `tx_fail` pulse; XMIT waits, holding an expiry. -/
def Obligations.NopLeavesTheRegistryAlone : Prop :=
  ∀ (io : Input) (s : State), Operational s →
    ∃ t, exec (.nop io) s = .next t
      ∧ t.gs = s.gs ∧ t.rdData = 0 ∧ t.errInv = s.errInv ∧ t.errProto = s.errProto ∧ t.stopLat = s.stopLat
      ∧ t.txerrCnt = s.txerrCnt ∧ t.params = s.params ∧ t.script = s.script ∧ t.encOut = s.encOut ∧ t.decOut = s.decOut
      ∧ t.lastErr = (if s.st = .init ∧ io.resOk = false then .raised .configurationError else s.lastErr)
      ∧ t.dirty = s.dirty
      ∧ (s.st = .idle ∧ timerExpired s = false ∧ s.tickPend = false ∧ s.stopLat = false ∨ s.st.Terminal →
          t.sched = { s.sched with tmr := countedTmr s, txFail := false })
      ∧ (s.st = .xmit →
          t.sched =
            { s.sched with
              tmr := countedTmr s
              txFail := false
              tickPend := s.tickPend || timerExpired s
              ovr := s.ovr || (timerExpired s && s.tickPend) })

/-- R183, R179, R181, R182, R234: the terminal states are left by `rst` alone, and in them a step without `rst` changes in the
scheduler only the counter of a running timer, an ending `tx_fail` pulse and the marks of an accepted write. -/
def Obligations.TerminalStatesAreLeftOnlyByReset : Prop :=
  ∀ (i : Instr) (io : Input) (s : State), Operational s → s.st.Terminal → i.ports = some io → io.rst = false →
    ∃ t, exec i s = .next t ∧ t.st = s.st ∧ t.sched = steppedSched io s

/-- R44, R45, R46, R47: the sticky bits and the failure counter never fall without `rst`. -/
def Obligations.StickyErrorsHoldUntilReset : Prop :=
  ∀ (i : Instr) (s t : State), exec i s = .next t → (∀ io, i.ports = some io → io.rst = false) →
    (s.errInv = true → t.errInv = true) ∧ (s.errProto = true → t.errProto = true) ∧ (s.ovr = true → t.ovr = true)
      ∧ (s.stopLat = true → t.stopLat = true) ∧ s.txerrCnt.toNat ≤ t.txerrCnt.toNat

/-! ### Status and outputs -/

/-- R52: the status word's fields, with the fixed codes of R36 in ST and of R210 in LAST_ERR. -/
def Obligations.StatusWordShowsTheState : Prop :=
  ∀ s : State,
    s.status.extractLsb' 0 3
        = (match s.st with
          | .init => 0 | .idle => 1 | .pulse => 2 | .xmit => 3 | .stopped => 4 | .halted => 5 | .cfgfail => 6
          | .reserved7 => 7)
      ∧ s.status.getLsbD 3 = s.dirty ∧ s.status.getLsbD 4 = s.wsnap
      ∧ s.status.getLsbD 5 = s.tickPend ∧ s.status.getLsbD 6 = s.stopLat ∧ s.status.getLsbD 7 = s.blank
      ∧ s.status.getLsbD 8 = s.txReq ∧ s.status.getLsbD 9 = s.errInv ∧ s.status.getLsbD 10 = s.errProto
      ∧ s.status.getLsbD 11 = s.ovr
      ∧ s.status.extractLsb' 12 3
        = (match s.lastErr with
          | .none => 0
          | .raised .configurationError => 1 | .raised .transportError => 2 | .raised .invalidChannel => 3
          | .raised .hardwareLinkError => 4 | .raised .protocolViolation => 5
          | .reserved6 => 6 | .reserved7 => 7)
      ∧ (s.status.getLsbD 15 = true ↔ s.st = .halted ∨ s.st = .cfgfail)

/-- R53: the derived outputs. -/
def Obligations.DerivedOutputsFollowTheFsmState : Prop :=
  ∀ (io : Input) (s : State), s.st ≠ .reserved7 →
    ((outputs io s).ready = true ↔ s.st ≠ .init ∧ s.st ≠ .cfgfail)
      ∧ ((outputs io s).quiescent = true ↔ s.st = .stopped ∨ s.st = .halted ∨ s.st = .cfgfail)
      ∧ ((outputs io s).gsclkEn = true ↔ s.st = .idle ∨ s.st = .pulse ∨ s.st = .xmit)
      ∧ (s.fatal = true ↔ s.st = .halted ∨ s.st = .cfgfail) ∧ (outputs io s).status.getLsbD 15 = s.fatal
      ∧ (∀ (j : Nat) (h : j < 24), (outputs io s).txData.extractLsb' (184 - 8 * j) 8 = s.fb[j])

/-! ### Invariants and runs -/

/-- The state after reset is coherent, for every parameter setting R8 allows. -/
def Obligations.ResetStateIsCoherent : Prop :=
  Coherent State.reset ∧ ∀ (p : Params) (script : List Nat), paramsValid p = true → Coherent (State.resetOf p script)

/-- R184 and the ranges of the counters: every step keeps them. -/
def Obligations.EveryStepKeepsCoherence : Prop := ∀ s t : State, Coherent s → step s = .next t → Coherent t

/-- R200: the step is total. From a coherent state every input word of R82's width has a successor. -/
def Obligations.CoherentStatesAlwaysStep : Prop :=
  ∀ s : State, Coherent s → nextWord s < 2 ^ s.params.wordBits → ∃ t, step s = .next t

/-- R200, R250: a run from `ResetState` never stops, under any inputs, and stays coherent. -/
def Obligations.RunsFromResetNeverStop : Prop :=
  ∀ (p : Params) (script : List Nat) (n : Nat), paramsValid p = true → (∀ w ∈ script, w < 2 ^ p.wordBits) →
    ∃ t, Host.Core.run Sys2Proof.core n (State.resetOf p script) = .next t ∧ Coherent t

/-- R73, R34, R35, R172, R174: no accepted write is ever lost, step by step. Every step keeps `NothingLost`, so a clean device
has the encoding of its registers in the framebuffer. A write accepted without `rst` leaves `dirty` and `wsnap` at 1. `dirty`
falls only where a transaction ends in success, with no link fault and nothing written since its snapshot, and then the frame
in flight encodes the registers. `wsnap` falls only by `rst` or where a snapshot of the registers starts a transaction. -/
def Obligations.NoAcceptedWriteIsLost : Prop :=
  ∀ s t : State, step s = .next t →
    let io := unpackWord s.params (nextWord s)
    (NothingLost s → NothingLost t ∧ (t.dirty = false → t.fb = encodeFrame t.gs))
      ∧ (io.rst = false → writeAccepted io s = true → t.dirty = true ∧ t.wsnap = true)
      ∧ (s.dirty = true → t.dirty = false →
          (s.st = .xmit ∧ io.rst = false ∧ io.txDone = true ∧ io.txOk = true ∧ io.blankFault = false
            ∧ s.wsnap = false ∧ writeAccepted io s = false)
          ∧ (NothingLost s → s.fb = encodeFrame t.gs ∧ t.fb = s.fb))
      ∧ (s.wsnap = true → t.wsnap = false →
          io.rst = true
            ∨ (s.st = .pulse ∧ s.pcnt = 0 ∧ s.dirty = true ∧ t.st = .xmit ∧ t.txReq = true ∧ t.dirty = true
                ∧ t.fb = encodeFrame s.gs))

/-- Nothing is lost in the state after reset: the all-zero frame encodes the all-zero registers. -/
def Obligations.ResetStateHasLostNothing : Prop :=
  ∀ (p : Params) (script : List Nat), NothingLost (State.resetOf p script)

/-- R184 (d): TICK_ACCEPT makes BLANK follow the pulse, and every later operation without `rst` keeps it so outside INIT;
HALTED entered from PULSE keeps BLANK high, HALTED entered from IDLE or XMIT keeps it low, and HALTED holds it. -/
def Obligations.BlankIsHighExactlyInThePulse : Prop :=
  (∀ (io : Input) (s t : State), exec (.tickAccept io) s = .next t → s.st = .idle → t.st = .pulse → BlankFollowsPulse t)
    ∧ ∀ (i : Instr) (s t : State), BlankFollowsPulse s → s.st ≠ .init → exec i s = .next t →
        (∀ io, i.ports = some io → io.rst = false) →
        BlankFollowsPulse t
          ∧ (t.st = .halted →
              (s.st = .pulse → t.blank = true) ∧ (s.st = .idle ∨ s.st = .xmit → t.blank = false)
                ∧ (s.st = .halted → t.blank = s.blank))

/-- R37, R38, R224, D36: the counters fit the widths R7 gives them. -/
def Obligations.CountersFitTheirWidths : Prop :=
  ∀ s : State, Coherent s →
    s.tmr < 2 ^ tmrWidth s.params ∧ s.pcnt < 2 ^ pcntWidth s.params ∧ s.params.periodCycles ≤ 2 ^ tmrWidth s.params

/-- R163: while the timer runs, the counter after n steps is where n counts from its start put it on a cycle of exactly
PERIOD_CYCLES steps, whatever the FSM did: no drift. -/
def Obligations.ExpiryGridDoesNotDrift : Prop :=
  ∀ (s t : State) (n : Nat), Coherent s → s.tmrRun = true →
    (∀ m ≤ n, ∃ u, Host.Core.run Sys2Proof.core m s = .next u ∧ u.tmrRun = true) →
    Host.Core.run Sys2Proof.core n s = .next t →
    t.tmr < s.params.periodCycles ∧ (t.tmr + n) % s.params.periodCycles = s.tmr % s.params.periodCycles

/-- R171, R176: once a pulse has `pcnt` steps to come, BLANK is high and the FSM in PULSE for exactly those steps and the
current one, as long as no input resets the core or reports a link fault: after `n` steps, `n` up to `pcnt`, both still hold,
and after `pcnt + 1` steps BLANK is low and the FSM has left PULSE. -/
def Obligations.BlankPulseLastsItsCount : Prop :=
  ∀ (s : State) (n : Nat), Coherent s → s.st = .pulse → n ≤ s.pcnt + 1 →
    (∀ m < n, wordAt s.script m < 2 ^ s.params.wordBits ∧ (unpackWord s.params (wordAt s.script m)).rst = false
      ∧ (unpackWord s.params (wordAt s.script m)).blankFault = false) →
    ∃ t, Host.Core.run Sys2Proof.core n s = .next t
      ∧ (n ≤ s.pcnt → t.st = .pulse ∧ t.blank = true ∧ t.pcnt = s.pcnt - n)
      ∧ (n = s.pcnt + 1 → (t.st = .stopped ∨ t.st = .xmit ∨ t.st = .idle) ∧ t.blank = false)

/-- R254: the first tick after a reset transmits, whatever is written or read meanwhile. With resources present in the INIT
step, and no reset, stop or link fault, the core is in its last pulse step after PERIOD_CYCLES + PULSE_CYCLES steps and in XMIT
one step later, with the encoding of the registers on `tx_data`. -/
def Obligations.FirstTickAfterResetTransmits : Prop :=
  ∀ (p : Params) (script : List Nat), paramsValid p = true →
    (∀ m ≤ p.periodCycles + p.pulseCycles, QuietWord p (wordAt script m)) →
    (unpackWord p (wordAt script 0)).resOk = true →
    ∃ u t, Host.Core.run Sys2Proof.core (p.periodCycles + p.pulseCycles) (State.resetOf p script) = .next u
      ∧ u.st = .pulse ∧ u.blank = true ∧ u.pcnt = 0
      ∧ Host.Core.run Sys2Proof.core (p.periodCycles + p.pulseCycles + 1) (State.resetOf p script) = .next t
      ∧ t.st = .xmit ∧ t.txReq = true ∧ t.blank = false ∧ t.fb = encodeFrame u.gs

/-- R7, R164: the timing formulas hold exactly for every F_GS_HZ but 0; 2.5 MHz gives a blank period of 1,638,400 ns, which
is 81,920 steps at 50 MHz; and a frequency whose period is no whole number of nanoseconds is not rounded. -/
def Obligations.NominalPeriodOfTheExample : Prop :=
  (∀ (p : Params) (fClkHz : ℚ), p.fGsHz ≠ 0 →
      gsPeriodNs p * p.fGsHz = 1000000000 ∧ blankPeriodNs p = 4096 * gsPeriodNs p
        ∧ nominalPeriodCycles p fClkHz * 1000000000 = blankPeriodNs p * fClkHz)
    ∧ gsPeriodNs Config.defaults = 400 ∧ blankPeriodNs Config.defaults = 1638400
    ∧ nominalPeriodCycles Config.defaults 50000000 = 81920
    ∧ blankPeriodNs { Config.defaults with fGsHz := 4096000 } = 1000000
    ∧ nominalPeriodCycles { Config.defaults with fGsHz := 4096000 } 50000000 = 50000
end

