-- ==== Sys2Proof/Laws/State.lean ====
section
/-! SUPPORT. The small lemmas of the state's named updates: one per field, true by rfl. -/

namespace Sys2Proof.Machine

/-! ### `ResetState` -/

@[simp] theorem resetOf_gs (p : Params) (l : List Nat) : (State.resetOf p l).gs = Vector.replicate 16 0 := rfl
@[simp] theorem resetOf_fb (p : Params) (l : List Nat) : (State.resetOf p l).fb = Vector.replicate 24 0 := rfl
@[simp] theorem resetOf_dirty (p : Params) (l : List Nat) : (State.resetOf p l).dirty = true := rfl
@[simp] theorem resetOf_wsnap (p : Params) (l : List Nat) : (State.resetOf p l).wsnap = false := rfl
@[simp] theorem resetOf_st (p : Params) (l : List Nat) : (State.resetOf p l).st = .init := rfl
@[simp] theorem resetOf_pcnt (p : Params) (l : List Nat) : (State.resetOf p l).pcnt = 0 := rfl
@[simp] theorem resetOf_tmr (p : Params) (l : List Nat) : (State.resetOf p l).tmr = 0 := rfl
@[simp] theorem resetOf_tmrRun (p : Params) (l : List Nat) : (State.resetOf p l).tmrRun = false := rfl
@[simp] theorem resetOf_tickPend (p : Params) (l : List Nat) : (State.resetOf p l).tickPend = false := rfl
@[simp] theorem resetOf_blank (p : Params) (l : List Nat) : (State.resetOf p l).blank = p.blankInit := rfl
@[simp] theorem resetOf_txReq (p : Params) (l : List Nat) : (State.resetOf p l).txReq = false := rfl
@[simp] theorem resetOf_txFail (p : Params) (l : List Nat) : (State.resetOf p l).txFail = false := rfl
@[simp] theorem resetOf_stopLat (p : Params) (l : List Nat) : (State.resetOf p l).stopLat = false := rfl
@[simp] theorem resetOf_errInv (p : Params) (l : List Nat) : (State.resetOf p l).errInv = false := rfl
@[simp] theorem resetOf_errProto (p : Params) (l : List Nat) : (State.resetOf p l).errProto = false := rfl
@[simp] theorem resetOf_ovr (p : Params) (l : List Nat) : (State.resetOf p l).ovr = false := rfl
@[simp] theorem resetOf_txerrCnt (p : Params) (l : List Nat) : (State.resetOf p l).txerrCnt = 0 := rfl
@[simp] theorem resetOf_lastErr (p : Params) (l : List Nat) : (State.resetOf p l).lastErr = .none := rfl
@[simp] theorem resetOf_rdData (p : Params) (l : List Nat) : (State.resetOf p l).rdData = 0 := rfl
@[simp] theorem resetOf_encOut (p : Params) (l : List Nat) : (State.resetOf p l).encOut = Vector.replicate 24 0 := rfl
@[simp] theorem resetOf_decOut (p : Params) (l : List Nat) : (State.resetOf p l).decOut = Vector.replicate 16 0 := rfl
@[simp] theorem resetOf_params (p : Params) (l : List Nat) : (State.resetOf p l).params = p := rfl
@[simp] theorem resetOf_script (p : Params) (l : List Nat) : (State.resetOf p l).script = l := rfl

/-! ### The script -/

@[simp] theorem consumeWord_gs (s : State) : (consumeWord s).gs = s.gs := rfl
@[simp] theorem consumeWord_fb (s : State) : (consumeWord s).fb = s.fb := rfl
@[simp] theorem consumeWord_dirty (s : State) : (consumeWord s).dirty = s.dirty := rfl
@[simp] theorem consumeWord_wsnap (s : State) : (consumeWord s).wsnap = s.wsnap := rfl
@[simp] theorem consumeWord_st (s : State) : (consumeWord s).st = s.st := rfl
@[simp] theorem consumeWord_pcnt (s : State) : (consumeWord s).pcnt = s.pcnt := rfl
@[simp] theorem consumeWord_tmr (s : State) : (consumeWord s).tmr = s.tmr := rfl
@[simp] theorem consumeWord_tmrRun (s : State) : (consumeWord s).tmrRun = s.tmrRun := rfl
@[simp] theorem consumeWord_tickPend (s : State) : (consumeWord s).tickPend = s.tickPend := rfl
@[simp] theorem consumeWord_blank (s : State) : (consumeWord s).blank = s.blank := rfl
@[simp] theorem consumeWord_txReq (s : State) : (consumeWord s).txReq = s.txReq := rfl
@[simp] theorem consumeWord_txFail (s : State) : (consumeWord s).txFail = s.txFail := rfl
@[simp] theorem consumeWord_stopLat (s : State) : (consumeWord s).stopLat = s.stopLat := rfl
@[simp] theorem consumeWord_errInv (s : State) : (consumeWord s).errInv = s.errInv := rfl
@[simp] theorem consumeWord_errProto (s : State) : (consumeWord s).errProto = s.errProto := rfl
@[simp] theorem consumeWord_ovr (s : State) : (consumeWord s).ovr = s.ovr := rfl
@[simp] theorem consumeWord_txerrCnt (s : State) : (consumeWord s).txerrCnt = s.txerrCnt := rfl
@[simp] theorem consumeWord_lastErr (s : State) : (consumeWord s).lastErr = s.lastErr := rfl
@[simp] theorem consumeWord_rdData (s : State) : (consumeWord s).rdData = s.rdData := rfl
@[simp] theorem consumeWord_encOut (s : State) : (consumeWord s).encOut = s.encOut := rfl
@[simp] theorem consumeWord_decOut (s : State) : (consumeWord s).decOut = s.decOut := rfl
@[simp] theorem consumeWord_params (s : State) : (consumeWord s).params = s.params := rfl
@[simp] theorem consumeWord_script (s : State) : (consumeWord s).script = s.script.tail := rfl
@[simp] theorem placeWord_gs (s : State) (w : Nat) : (placeWord s w).gs = s.gs := rfl
@[simp] theorem placeWord_fb (s : State) (w : Nat) : (placeWord s w).fb = s.fb := rfl
@[simp] theorem placeWord_dirty (s : State) (w : Nat) : (placeWord s w).dirty = s.dirty := rfl
@[simp] theorem placeWord_wsnap (s : State) (w : Nat) : (placeWord s w).wsnap = s.wsnap := rfl
@[simp] theorem placeWord_st (s : State) (w : Nat) : (placeWord s w).st = s.st := rfl
@[simp] theorem placeWord_pcnt (s : State) (w : Nat) : (placeWord s w).pcnt = s.pcnt := rfl
@[simp] theorem placeWord_tmr (s : State) (w : Nat) : (placeWord s w).tmr = s.tmr := rfl
@[simp] theorem placeWord_tmrRun (s : State) (w : Nat) : (placeWord s w).tmrRun = s.tmrRun := rfl
@[simp] theorem placeWord_tickPend (s : State) (w : Nat) : (placeWord s w).tickPend = s.tickPend := rfl
@[simp] theorem placeWord_blank (s : State) (w : Nat) : (placeWord s w).blank = s.blank := rfl
@[simp] theorem placeWord_txReq (s : State) (w : Nat) : (placeWord s w).txReq = s.txReq := rfl
@[simp] theorem placeWord_txFail (s : State) (w : Nat) : (placeWord s w).txFail = s.txFail := rfl
@[simp] theorem placeWord_stopLat (s : State) (w : Nat) : (placeWord s w).stopLat = s.stopLat := rfl
@[simp] theorem placeWord_errInv (s : State) (w : Nat) : (placeWord s w).errInv = s.errInv := rfl
@[simp] theorem placeWord_errProto (s : State) (w : Nat) : (placeWord s w).errProto = s.errProto := rfl
@[simp] theorem placeWord_ovr (s : State) (w : Nat) : (placeWord s w).ovr = s.ovr := rfl
@[simp] theorem placeWord_txerrCnt (s : State) (w : Nat) : (placeWord s w).txerrCnt = s.txerrCnt := rfl
@[simp] theorem placeWord_lastErr (s : State) (w : Nat) : (placeWord s w).lastErr = s.lastErr := rfl
@[simp] theorem placeWord_rdData (s : State) (w : Nat) : (placeWord s w).rdData = s.rdData := rfl
@[simp] theorem placeWord_encOut (s : State) (w : Nat) : (placeWord s w).encOut = s.encOut := rfl
@[simp] theorem placeWord_decOut (s : State) (w : Nat) : (placeWord s w).decOut = s.decOut := rfl
@[simp] theorem placeWord_params (s : State) (w : Nat) : (placeWord s w).params = s.params := rfl
@[simp] theorem placeWord_script (s : State) (w : Nat) : (placeWord s w).script = w :: s.script.tail := rfl

/-! ### The effect of a cause: what no cause touches (60_exceptions.md R212) -/

@[simp] theorem causeEffect_gs (c : Cause) (t : State) : (causeEffect c t).gs = t.gs := by cases c <;> rfl
@[simp] theorem causeEffect_fb (c : Cause) (t : State) : (causeEffect c t).fb = t.fb := by cases c <;> rfl
@[simp] theorem causeEffect_dirty (c : Cause) (t : State) : (causeEffect c t).dirty = t.dirty := by cases c <;> rfl
@[simp] theorem causeEffect_wsnap (c : Cause) (t : State) : (causeEffect c t).wsnap = t.wsnap := by cases c <;> rfl
@[simp] theorem causeEffect_pcnt (c : Cause) (t : State) : (causeEffect c t).pcnt = t.pcnt := by cases c <;> rfl
@[simp] theorem causeEffect_tmr (c : Cause) (t : State) : (causeEffect c t).tmr = t.tmr := by cases c <;> rfl
@[simp] theorem causeEffect_blank (c : Cause) (t : State) : (causeEffect c t).blank = t.blank := by cases c <;> rfl
@[simp] theorem causeEffect_stopLat (c : Cause) (t : State) : (causeEffect c t).stopLat = t.stopLat := by cases c <;> rfl
@[simp] theorem causeEffect_ovr (c : Cause) (t : State) : (causeEffect c t).ovr = t.ovr := by cases c <;> rfl
@[simp] theorem causeEffect_lastErr (c : Cause) (t : State) : (causeEffect c t).lastErr = t.lastErr := by cases c <;> rfl
@[simp] theorem causeEffect_rdData (c : Cause) (t : State) : (causeEffect c t).rdData = t.rdData := by cases c <;> rfl
@[simp] theorem causeEffect_encOut (c : Cause) (t : State) : (causeEffect c t).encOut = t.encOut := by cases c <;> rfl
@[simp] theorem causeEffect_decOut (c : Cause) (t : State) : (causeEffect c t).decOut = t.decOut := by cases c <;> rfl
@[simp] theorem causeEffect_params (c : Cause) (t : State) : (causeEffect c t).params = t.params := by cases c <;> rfl
@[simp] theorem causeEffect_script (c : Cause) (t : State) : (causeEffect c t).script = t.script := by cases c <;> rfl

end Sys2Proof.Machine
end

