-- ==== Sys2Proof/Laws/Ops.lean ====
section
/-! SUPPORT. For each shared operation, what it can do, said once: when a clock edge has a next state, and which fields each
phase of a step leaves alone. -/

namespace Sys2Proof.Machine

/-- A clock edge answers a next state exactly when R8 holds and either the step is a reset or no code is reserved. -/
theorem atEdge_eq_next (io : Input) (s body t : State) :
    atEdge io s body = .next t ↔
      paramsValid s.params = true
        ∧ ((io.rst = true ∧ t = State.resetOf s.params s.script)
          ∨ (io.rst = false ∧ s.st ≠ .reserved7 ∧ s.lastErr.isReserved = false ∧ t = body)) := by
  unfold atEdge
  cases h1 : paramsValid s.params <;> cases h2 : io.rst <;> cases h3 : s.lastErr.isReserved
    <;> by_cases h4 : s.st = .reserved7 <;> simp [h4] <;> exact eq_comm

/-- From a state that R8 and the codes allow, a step without `rst` answers its body. -/
theorem atEdge_next (io : Input) (s body : State) (hp : paramsValid s.params = true) (hr : io.rst = false)
    (hs : s.st ≠ .reserved7) (he : s.lastErr.isReserved = false) : atEdge io s body = .next body :=
  (atEdge_eq_next io s body body).2 ⟨hp, .inr ⟨hr, hs, he, rfl⟩⟩

/-- Raising a cause applies its effect and adds it to the step's events; the step's other marks stay (R213). -/
@[simp] theorem raise_next (c : Cause) (w : Work) : (raise c w).next = causeEffect c w.next := rfl
@[simp] theorem raise_events (c : Cause) (w : Work) : (raise c w).events = c :: w.events := rfl
@[simp] theorem raise_snap (c : Cause) (w : Work) : (raise c w).snap = w.snap := rfl
@[simp] theorem raise_succ (c : Cause) (w : Work) : (raise c w).succ = w.succ := rfl

/-- Entering STOPPED writes three fields (R178). -/
theorem enterStopped_eq (w : Work) :
    enterStopped w = { w with next := { w.next with st := .stopped, tmrRun := false, tickPend := false } } := rfl

/-- Holding an expiry writes `tick_pend` and `ovr`, and only at an expiry (R162). -/
theorem pendIfExpired_eq (s : State) (w : Work) :
    pendIfExpired s w =
      { w with
        next :=
          { w.next with
            tickPend := timerExpired s || w.next.tickPend
            ovr := (timerExpired s && s.tickPend) || w.next.ovr } } := by
  unfold pendIfExpired; cases timerExpired s <;> simp

/-- The timer phase writes `tmr` alone (R161). -/
theorem timerPhase_eq (io : Input) (s : State) (w : Work) :
    timerPhase io s w =
      { w with
        next :=
          { w.next with
            tmr := if s.tmrRun then (if s.tmr = 0 then s.params.periodCycles - 1 else s.tmr - 1) else w.next.tmr } } := by
  unfold timerPhase timerReload timerExpired; cases s.tmrRun <;> by_cases h : s.tmr = 0 <;> simp [h]

/-! ### What the phases leave alone -/

/-- No FSM rule touches the registry, the reports, the latch or the write marks (R160, R201). -/
theorem fsmPhase_frame (io : Input) (s : State) (w : Work) :
    let n := (fsmPhase io s w).next
    n.gs = w.next.gs ∧ n.lastErr = w.next.lastErr ∧ n.stopLat = w.next.stopLat ∧ n.rdData = w.next.rdData ∧ n.encOut = w.next.encOut
      ∧ n.decOut = w.next.decOut ∧ n.params = w.next.params ∧ n.script = w.next.script ∧ n.wsnap = w.next.wsnap ∧ n.dirty = w.next.dirty
      ∧ n.errInv = w.next.errInv ∧ n.errProto = w.next.errProto := by
  cases hs : s.st <;> simp only [fsmPhase, hs, initCheckRule, idleRule, pulseRule, xmitRule, tickAcceptRule, pulseHoldRule,
    snapshotSendRule, pulseEndCleanRule, pulseStopRule, txDoneOkRule, txDoneFailRule, leaveXmit, pendIfExpired_eq,
    enterStopped_eq]
  all_goals repeat' split
  all_goals simp [raise, causeEffect]

@[simp] theorem fsmPhase_gs (io : Input) (s : State) (w : Work) : (fsmPhase io s w).next.gs = w.next.gs :=
  (fsmPhase_frame io s w).1
@[simp] theorem fsmPhase_lastErr (io : Input) (s : State) (w : Work) : (fsmPhase io s w).next.lastErr = w.next.lastErr :=
  (fsmPhase_frame io s w).2.1
@[simp] theorem fsmPhase_stopLat (io : Input) (s : State) (w : Work) : (fsmPhase io s w).next.stopLat = w.next.stopLat :=
  (fsmPhase_frame io s w).2.2.1
@[simp] theorem fsmPhase_rdData (io : Input) (s : State) (w : Work) : (fsmPhase io s w).next.rdData = w.next.rdData :=
  (fsmPhase_frame io s w).2.2.2.1
@[simp] theorem fsmPhase_encOut (io : Input) (s : State) (w : Work) : (fsmPhase io s w).next.encOut = w.next.encOut :=
  (fsmPhase_frame io s w).2.2.2.2.1
@[simp] theorem fsmPhase_decOut (io : Input) (s : State) (w : Work) : (fsmPhase io s w).next.decOut = w.next.decOut :=
  (fsmPhase_frame io s w).2.2.2.2.2.1
@[simp] theorem fsmPhase_params (io : Input) (s : State) (w : Work) : (fsmPhase io s w).next.params = w.next.params :=
  (fsmPhase_frame io s w).2.2.2.2.2.2.1
@[simp] theorem fsmPhase_script (io : Input) (s : State) (w : Work) : (fsmPhase io s w).next.script = w.next.script :=
  (fsmPhase_frame io s w).2.2.2.2.2.2.2.1
@[simp] theorem fsmPhase_wsnap (io : Input) (s : State) (w : Work) : (fsmPhase io s w).next.wsnap = w.next.wsnap :=
  (fsmPhase_frame io s w).2.2.2.2.2.2.2.2.1
@[simp] theorem fsmPhase_dirty (io : Input) (s : State) (w : Work) : (fsmPhase io s w).next.dirty = w.next.dirty :=
  (fsmPhase_frame io s w).2.2.2.2.2.2.2.2.2.1
@[simp] theorem fsmPhase_errInv (io : Input) (s : State) (w : Work) : (fsmPhase io s w).next.errInv = w.next.errInv :=
  (fsmPhase_frame io s w).2.2.2.2.2.2.2.2.2.2.1
@[simp] theorem fsmPhase_errProto (io : Input) (s : State) (w : Work) : (fsmPhase io s w).next.errProto = w.next.errProto :=
  (fsmPhase_frame io s w).2.2.2.2.2.2.2.2.2.2.2

/-- The write touches `gs`, or `errInv` (R111). -/
theorem registryWrite_frame (io : Input) (s : State) (w : Work) :
    let n := (registryWrite io s w).next
    n.fb = w.next.fb ∧ n.dirty = w.next.dirty ∧ n.wsnap = w.next.wsnap ∧ n.st = w.next.st ∧ n.pcnt = w.next.pcnt
      ∧ n.tmr = w.next.tmr ∧ n.tmrRun = w.next.tmrRun ∧ n.tickPend = w.next.tickPend ∧ n.blank = w.next.blank ∧ n.txReq = w.next.txReq
      ∧ n.txFail = w.next.txFail ∧ n.stopLat = w.next.stopLat ∧ n.errProto = w.next.errProto ∧ n.ovr = w.next.ovr ∧ n.txerrCnt = w.next.txerrCnt
      ∧ n.lastErr = w.next.lastErr ∧ n.rdData = w.next.rdData ∧ n.encOut = w.next.encOut ∧ n.decOut = w.next.decOut ∧ n.params = w.next.params
      ∧ n.script = w.next.script := by
  unfold registryWrite
  repeat' split
  all_goals simp [raise, causeEffect]

@[simp] theorem registryWrite_fb (io : Input) (s : State) (w : Work) : (registryWrite io s w).next.fb = w.next.fb :=
  (registryWrite_frame io s w).1
@[simp] theorem registryWrite_dirty (io : Input) (s : State) (w : Work) : (registryWrite io s w).next.dirty = w.next.dirty :=
  (registryWrite_frame io s w).2.1
@[simp] theorem registryWrite_wsnap (io : Input) (s : State) (w : Work) : (registryWrite io s w).next.wsnap = w.next.wsnap :=
  (registryWrite_frame io s w).2.2.1
@[simp] theorem registryWrite_st (io : Input) (s : State) (w : Work) : (registryWrite io s w).next.st = w.next.st :=
  (registryWrite_frame io s w).2.2.2.1
@[simp] theorem registryWrite_pcnt (io : Input) (s : State) (w : Work) : (registryWrite io s w).next.pcnt = w.next.pcnt :=
  (registryWrite_frame io s w).2.2.2.2.1
@[simp] theorem registryWrite_tmr (io : Input) (s : State) (w : Work) : (registryWrite io s w).next.tmr = w.next.tmr :=
  (registryWrite_frame io s w).2.2.2.2.2.1
@[simp] theorem registryWrite_tmrRun (io : Input) (s : State) (w : Work) : (registryWrite io s w).next.tmrRun = w.next.tmrRun :=
  (registryWrite_frame io s w).2.2.2.2.2.2.1
@[simp] theorem registryWrite_tickPend (io : Input) (s : State) (w : Work) : (registryWrite io s w).next.tickPend = w.next.tickPend :=
  (registryWrite_frame io s w).2.2.2.2.2.2.2.1
@[simp] theorem registryWrite_blank (io : Input) (s : State) (w : Work) : (registryWrite io s w).next.blank = w.next.blank :=
  (registryWrite_frame io s w).2.2.2.2.2.2.2.2.1
@[simp] theorem registryWrite_txReq (io : Input) (s : State) (w : Work) : (registryWrite io s w).next.txReq = w.next.txReq :=
  (registryWrite_frame io s w).2.2.2.2.2.2.2.2.2.1
@[simp] theorem registryWrite_txFail (io : Input) (s : State) (w : Work) : (registryWrite io s w).next.txFail = w.next.txFail :=
  (registryWrite_frame io s w).2.2.2.2.2.2.2.2.2.2.1
@[simp] theorem registryWrite_stopLat (io : Input) (s : State) (w : Work) : (registryWrite io s w).next.stopLat = w.next.stopLat :=
  (registryWrite_frame io s w).2.2.2.2.2.2.2.2.2.2.2.1
@[simp] theorem registryWrite_errProto (io : Input) (s : State) (w : Work) : (registryWrite io s w).next.errProto = w.next.errProto :=
  (registryWrite_frame io s w).2.2.2.2.2.2.2.2.2.2.2.2.1
@[simp] theorem registryWrite_ovr (io : Input) (s : State) (w : Work) : (registryWrite io s w).next.ovr = w.next.ovr :=
  (registryWrite_frame io s w).2.2.2.2.2.2.2.2.2.2.2.2.2.1
@[simp] theorem registryWrite_txerrCnt (io : Input) (s : State) (w : Work) : (registryWrite io s w).next.txerrCnt = w.next.txerrCnt :=
  (registryWrite_frame io s w).2.2.2.2.2.2.2.2.2.2.2.2.2.2.1
@[simp] theorem registryWrite_lastErr (io : Input) (s : State) (w : Work) : (registryWrite io s w).next.lastErr = w.next.lastErr :=
  (registryWrite_frame io s w).2.2.2.2.2.2.2.2.2.2.2.2.2.2.2.1
@[simp] theorem registryWrite_rdData (io : Input) (s : State) (w : Work) : (registryWrite io s w).next.rdData = w.next.rdData :=
  (registryWrite_frame io s w).2.2.2.2.2.2.2.2.2.2.2.2.2.2.2.2.1
@[simp] theorem registryWrite_encOut (io : Input) (s : State) (w : Work) : (registryWrite io s w).next.encOut = w.next.encOut :=
  (registryWrite_frame io s w).2.2.2.2.2.2.2.2.2.2.2.2.2.2.2.2.2.1
@[simp] theorem registryWrite_decOut (io : Input) (s : State) (w : Work) : (registryWrite io s w).next.decOut = w.next.decOut :=
  (registryWrite_frame io s w).2.2.2.2.2.2.2.2.2.2.2.2.2.2.2.2.2.2.1
@[simp] theorem registryWrite_params (io : Input) (s : State) (w : Work) : (registryWrite io s w).next.params = w.next.params :=
  (registryWrite_frame io s w).2.2.2.2.2.2.2.2.2.2.2.2.2.2.2.2.2.2.2.1
@[simp] theorem registryWrite_script (io : Input) (s : State) (w : Work) : (registryWrite io s w).next.script = w.next.script :=
  (registryWrite_frame io s w).2.2.2.2.2.2.2.2.2.2.2.2.2.2.2.2.2.2.2.2

/-- The read touches `rdData` and `errInv` (R112). -/
theorem registryRead_frame (io : Input) (s : State) (w : Work) :
    let n := (registryRead io s w).next
    n.gs = w.next.gs ∧ n.fb = w.next.fb ∧ n.dirty = w.next.dirty ∧ n.wsnap = w.next.wsnap ∧ n.st = w.next.st
      ∧ n.pcnt = w.next.pcnt ∧ n.tmr = w.next.tmr ∧ n.tmrRun = w.next.tmrRun ∧ n.tickPend = w.next.tickPend ∧ n.blank = w.next.blank
      ∧ n.txReq = w.next.txReq ∧ n.txFail = w.next.txFail ∧ n.stopLat = w.next.stopLat ∧ n.errProto = w.next.errProto ∧ n.ovr = w.next.ovr
      ∧ n.txerrCnt = w.next.txerrCnt ∧ n.lastErr = w.next.lastErr ∧ n.encOut = w.next.encOut ∧ n.decOut = w.next.decOut ∧ n.params = w.next.params
      ∧ n.script = w.next.script := by
  unfold registryRead
  simp only []
  split <;> simp [raise, causeEffect]

@[simp] theorem registryRead_gs (io : Input) (s : State) (w : Work) : (registryRead io s w).next.gs = w.next.gs :=
  (registryRead_frame io s w).1
@[simp] theorem registryRead_fb (io : Input) (s : State) (w : Work) : (registryRead io s w).next.fb = w.next.fb :=
  (registryRead_frame io s w).2.1
@[simp] theorem registryRead_dirty (io : Input) (s : State) (w : Work) : (registryRead io s w).next.dirty = w.next.dirty :=
  (registryRead_frame io s w).2.2.1
@[simp] theorem registryRead_wsnap (io : Input) (s : State) (w : Work) : (registryRead io s w).next.wsnap = w.next.wsnap :=
  (registryRead_frame io s w).2.2.2.1
@[simp] theorem registryRead_st (io : Input) (s : State) (w : Work) : (registryRead io s w).next.st = w.next.st :=
  (registryRead_frame io s w).2.2.2.2.1
@[simp] theorem registryRead_pcnt (io : Input) (s : State) (w : Work) : (registryRead io s w).next.pcnt = w.next.pcnt :=
  (registryRead_frame io s w).2.2.2.2.2.1
@[simp] theorem registryRead_tmr (io : Input) (s : State) (w : Work) : (registryRead io s w).next.tmr = w.next.tmr :=
  (registryRead_frame io s w).2.2.2.2.2.2.1
@[simp] theorem registryRead_tmrRun (io : Input) (s : State) (w : Work) : (registryRead io s w).next.tmrRun = w.next.tmrRun :=
  (registryRead_frame io s w).2.2.2.2.2.2.2.1
@[simp] theorem registryRead_tickPend (io : Input) (s : State) (w : Work) : (registryRead io s w).next.tickPend = w.next.tickPend :=
  (registryRead_frame io s w).2.2.2.2.2.2.2.2.1
@[simp] theorem registryRead_blank (io : Input) (s : State) (w : Work) : (registryRead io s w).next.blank = w.next.blank :=
  (registryRead_frame io s w).2.2.2.2.2.2.2.2.2.1
@[simp] theorem registryRead_txReq (io : Input) (s : State) (w : Work) : (registryRead io s w).next.txReq = w.next.txReq :=
  (registryRead_frame io s w).2.2.2.2.2.2.2.2.2.2.1
@[simp] theorem registryRead_txFail (io : Input) (s : State) (w : Work) : (registryRead io s w).next.txFail = w.next.txFail :=
  (registryRead_frame io s w).2.2.2.2.2.2.2.2.2.2.2.1
@[simp] theorem registryRead_stopLat (io : Input) (s : State) (w : Work) : (registryRead io s w).next.stopLat = w.next.stopLat :=
  (registryRead_frame io s w).2.2.2.2.2.2.2.2.2.2.2.2.1
@[simp] theorem registryRead_errProto (io : Input) (s : State) (w : Work) : (registryRead io s w).next.errProto = w.next.errProto :=
  (registryRead_frame io s w).2.2.2.2.2.2.2.2.2.2.2.2.2.1
@[simp] theorem registryRead_ovr (io : Input) (s : State) (w : Work) : (registryRead io s w).next.ovr = w.next.ovr :=
  (registryRead_frame io s w).2.2.2.2.2.2.2.2.2.2.2.2.2.2.1
@[simp] theorem registryRead_txerrCnt (io : Input) (s : State) (w : Work) : (registryRead io s w).next.txerrCnt = w.next.txerrCnt :=
  (registryRead_frame io s w).2.2.2.2.2.2.2.2.2.2.2.2.2.2.2.1
@[simp] theorem registryRead_lastErr (io : Input) (s : State) (w : Work) : (registryRead io s w).next.lastErr = w.next.lastErr :=
  (registryRead_frame io s w).2.2.2.2.2.2.2.2.2.2.2.2.2.2.2.2.1
@[simp] theorem registryRead_encOut (io : Input) (s : State) (w : Work) : (registryRead io s w).next.encOut = w.next.encOut :=
  (registryRead_frame io s w).2.2.2.2.2.2.2.2.2.2.2.2.2.2.2.2.2.1
@[simp] theorem registryRead_decOut (io : Input) (s : State) (w : Work) : (registryRead io s w).next.decOut = w.next.decOut :=
  (registryRead_frame io s w).2.2.2.2.2.2.2.2.2.2.2.2.2.2.2.2.2.2.1
@[simp] theorem registryRead_params (io : Input) (s : State) (w : Work) : (registryRead io s w).next.params = w.next.params :=
  (registryRead_frame io s w).2.2.2.2.2.2.2.2.2.2.2.2.2.2.2.2.2.2.2.1
@[simp] theorem registryRead_script (io : Input) (s : State) (w : Work) : (registryRead io s w).next.script = w.next.script :=
  (registryRead_frame io s w).2.2.2.2.2.2.2.2.2.2.2.2.2.2.2.2.2.2.2.2

/-- A stray completion touches `errProto` alone (R177). -/
theorem strayCompletion_frame (io : Input) (s : State) (w : Work) :
    let n := (strayCompletion io s w).next
    n.gs = w.next.gs ∧ n.fb = w.next.fb ∧ n.dirty = w.next.dirty ∧ n.wsnap = w.next.wsnap ∧ n.st = w.next.st
      ∧ n.pcnt = w.next.pcnt ∧ n.tmr = w.next.tmr ∧ n.tmrRun = w.next.tmrRun ∧ n.tickPend = w.next.tickPend ∧ n.blank = w.next.blank
      ∧ n.txReq = w.next.txReq ∧ n.txFail = w.next.txFail ∧ n.stopLat = w.next.stopLat ∧ n.errInv = w.next.errInv ∧ n.ovr = w.next.ovr
      ∧ n.txerrCnt = w.next.txerrCnt ∧ n.lastErr = w.next.lastErr ∧ n.rdData = w.next.rdData ∧ n.encOut = w.next.encOut ∧ n.decOut = w.next.decOut
      ∧ n.params = w.next.params ∧ n.script = w.next.script := by
  unfold strayCompletion
  split <;> simp [raise, causeEffect]

@[simp] theorem strayCompletion_gs (io : Input) (s : State) (w : Work) : (strayCompletion io s w).next.gs = w.next.gs :=
  (strayCompletion_frame io s w).1
@[simp] theorem strayCompletion_fb (io : Input) (s : State) (w : Work) : (strayCompletion io s w).next.fb = w.next.fb :=
  (strayCompletion_frame io s w).2.1
@[simp] theorem strayCompletion_dirty (io : Input) (s : State) (w : Work) : (strayCompletion io s w).next.dirty = w.next.dirty :=
  (strayCompletion_frame io s w).2.2.1
@[simp] theorem strayCompletion_wsnap (io : Input) (s : State) (w : Work) : (strayCompletion io s w).next.wsnap = w.next.wsnap :=
  (strayCompletion_frame io s w).2.2.2.1
@[simp] theorem strayCompletion_st (io : Input) (s : State) (w : Work) : (strayCompletion io s w).next.st = w.next.st :=
  (strayCompletion_frame io s w).2.2.2.2.1
@[simp] theorem strayCompletion_pcnt (io : Input) (s : State) (w : Work) : (strayCompletion io s w).next.pcnt = w.next.pcnt :=
  (strayCompletion_frame io s w).2.2.2.2.2.1
@[simp] theorem strayCompletion_tmr (io : Input) (s : State) (w : Work) : (strayCompletion io s w).next.tmr = w.next.tmr :=
  (strayCompletion_frame io s w).2.2.2.2.2.2.1
@[simp] theorem strayCompletion_tmrRun (io : Input) (s : State) (w : Work) : (strayCompletion io s w).next.tmrRun = w.next.tmrRun :=
  (strayCompletion_frame io s w).2.2.2.2.2.2.2.1
@[simp] theorem strayCompletion_tickPend (io : Input) (s : State) (w : Work) : (strayCompletion io s w).next.tickPend = w.next.tickPend :=
  (strayCompletion_frame io s w).2.2.2.2.2.2.2.2.1
@[simp] theorem strayCompletion_blank (io : Input) (s : State) (w : Work) : (strayCompletion io s w).next.blank = w.next.blank :=
  (strayCompletion_frame io s w).2.2.2.2.2.2.2.2.2.1
@[simp] theorem strayCompletion_txReq (io : Input) (s : State) (w : Work) : (strayCompletion io s w).next.txReq = w.next.txReq :=
  (strayCompletion_frame io s w).2.2.2.2.2.2.2.2.2.2.1
@[simp] theorem strayCompletion_txFail (io : Input) (s : State) (w : Work) : (strayCompletion io s w).next.txFail = w.next.txFail :=
  (strayCompletion_frame io s w).2.2.2.2.2.2.2.2.2.2.2.1
@[simp] theorem strayCompletion_stopLat (io : Input) (s : State) (w : Work) : (strayCompletion io s w).next.stopLat = w.next.stopLat :=
  (strayCompletion_frame io s w).2.2.2.2.2.2.2.2.2.2.2.2.1
@[simp] theorem strayCompletion_errInv (io : Input) (s : State) (w : Work) : (strayCompletion io s w).next.errInv = w.next.errInv :=
  (strayCompletion_frame io s w).2.2.2.2.2.2.2.2.2.2.2.2.2.1
@[simp] theorem strayCompletion_ovr (io : Input) (s : State) (w : Work) : (strayCompletion io s w).next.ovr = w.next.ovr :=
  (strayCompletion_frame io s w).2.2.2.2.2.2.2.2.2.2.2.2.2.2.1
@[simp] theorem strayCompletion_txerrCnt (io : Input) (s : State) (w : Work) : (strayCompletion io s w).next.txerrCnt = w.next.txerrCnt :=
  (strayCompletion_frame io s w).2.2.2.2.2.2.2.2.2.2.2.2.2.2.2.1
@[simp] theorem strayCompletion_lastErr (io : Input) (s : State) (w : Work) : (strayCompletion io s w).next.lastErr = w.next.lastErr :=
  (strayCompletion_frame io s w).2.2.2.2.2.2.2.2.2.2.2.2.2.2.2.2.1
@[simp] theorem strayCompletion_rdData (io : Input) (s : State) (w : Work) : (strayCompletion io s w).next.rdData = w.next.rdData :=
  (strayCompletion_frame io s w).2.2.2.2.2.2.2.2.2.2.2.2.2.2.2.2.2.1
@[simp] theorem strayCompletion_encOut (io : Input) (s : State) (w : Work) : (strayCompletion io s w).next.encOut = w.next.encOut :=
  (strayCompletion_frame io s w).2.2.2.2.2.2.2.2.2.2.2.2.2.2.2.2.2.2.1
@[simp] theorem strayCompletion_decOut (io : Input) (s : State) (w : Work) : (strayCompletion io s w).next.decOut = w.next.decOut :=
  (strayCompletion_frame io s w).2.2.2.2.2.2.2.2.2.2.2.2.2.2.2.2.2.2.2.1
@[simp] theorem strayCompletion_params (io : Input) (s : State) (w : Work) : (strayCompletion io s w).next.params = w.next.params :=
  (strayCompletion_frame io s w).2.2.2.2.2.2.2.2.2.2.2.2.2.2.2.2.2.2.2.2.1
@[simp] theorem strayCompletion_script (io : Input) (s : State) (w : Work) : (strayCompletion io s w).next.script = w.next.script :=
  (strayCompletion_frame io s w).2.2.2.2.2.2.2.2.2.2.2.2.2.2.2.2.2.2.2.2.2

/-- The report touches `lastErr` alone (R214). -/
theorem reportPhase_frame (w : Work) :
    let n := (reportPhase w).next
    n.gs = w.next.gs ∧ n.fb = w.next.fb ∧ n.dirty = w.next.dirty ∧ n.wsnap = w.next.wsnap ∧ n.st = w.next.st
      ∧ n.pcnt = w.next.pcnt ∧ n.tmr = w.next.tmr ∧ n.tmrRun = w.next.tmrRun ∧ n.tickPend = w.next.tickPend ∧ n.blank = w.next.blank
      ∧ n.txReq = w.next.txReq ∧ n.txFail = w.next.txFail ∧ n.stopLat = w.next.stopLat ∧ n.errInv = w.next.errInv ∧ n.errProto = w.next.errProto
      ∧ n.ovr = w.next.ovr ∧ n.txerrCnt = w.next.txerrCnt ∧ n.rdData = w.next.rdData ∧ n.encOut = w.next.encOut ∧ n.decOut = w.next.decOut
      ∧ n.params = w.next.params ∧ n.script = w.next.script := by
  unfold reportPhase
  split <;> simp

@[simp] theorem reportPhase_gs (w : Work) : (reportPhase w).next.gs = w.next.gs :=
  (reportPhase_frame w).1
@[simp] theorem reportPhase_fb (w : Work) : (reportPhase w).next.fb = w.next.fb :=
  (reportPhase_frame w).2.1
@[simp] theorem reportPhase_dirty (w : Work) : (reportPhase w).next.dirty = w.next.dirty :=
  (reportPhase_frame w).2.2.1
@[simp] theorem reportPhase_wsnap (w : Work) : (reportPhase w).next.wsnap = w.next.wsnap :=
  (reportPhase_frame w).2.2.2.1
@[simp] theorem reportPhase_st (w : Work) : (reportPhase w).next.st = w.next.st :=
  (reportPhase_frame w).2.2.2.2.1
@[simp] theorem reportPhase_pcnt (w : Work) : (reportPhase w).next.pcnt = w.next.pcnt :=
  (reportPhase_frame w).2.2.2.2.2.1
@[simp] theorem reportPhase_tmr (w : Work) : (reportPhase w).next.tmr = w.next.tmr :=
  (reportPhase_frame w).2.2.2.2.2.2.1
@[simp] theorem reportPhase_tmrRun (w : Work) : (reportPhase w).next.tmrRun = w.next.tmrRun :=
  (reportPhase_frame w).2.2.2.2.2.2.2.1
@[simp] theorem reportPhase_tickPend (w : Work) : (reportPhase w).next.tickPend = w.next.tickPend :=
  (reportPhase_frame w).2.2.2.2.2.2.2.2.1
@[simp] theorem reportPhase_blank (w : Work) : (reportPhase w).next.blank = w.next.blank :=
  (reportPhase_frame w).2.2.2.2.2.2.2.2.2.1
@[simp] theorem reportPhase_txReq (w : Work) : (reportPhase w).next.txReq = w.next.txReq :=
  (reportPhase_frame w).2.2.2.2.2.2.2.2.2.2.1
@[simp] theorem reportPhase_txFail (w : Work) : (reportPhase w).next.txFail = w.next.txFail :=
  (reportPhase_frame w).2.2.2.2.2.2.2.2.2.2.2.1
@[simp] theorem reportPhase_stopLat (w : Work) : (reportPhase w).next.stopLat = w.next.stopLat :=
  (reportPhase_frame w).2.2.2.2.2.2.2.2.2.2.2.2.1
@[simp] theorem reportPhase_errInv (w : Work) : (reportPhase w).next.errInv = w.next.errInv :=
  (reportPhase_frame w).2.2.2.2.2.2.2.2.2.2.2.2.2.1
@[simp] theorem reportPhase_errProto (w : Work) : (reportPhase w).next.errProto = w.next.errProto :=
  (reportPhase_frame w).2.2.2.2.2.2.2.2.2.2.2.2.2.2.1
@[simp] theorem reportPhase_ovr (w : Work) : (reportPhase w).next.ovr = w.next.ovr :=
  (reportPhase_frame w).2.2.2.2.2.2.2.2.2.2.2.2.2.2.2.1
@[simp] theorem reportPhase_txerrCnt (w : Work) : (reportPhase w).next.txerrCnt = w.next.txerrCnt :=
  (reportPhase_frame w).2.2.2.2.2.2.2.2.2.2.2.2.2.2.2.2.1
@[simp] theorem reportPhase_rdData (w : Work) : (reportPhase w).next.rdData = w.next.rdData :=
  (reportPhase_frame w).2.2.2.2.2.2.2.2.2.2.2.2.2.2.2.2.2.1
@[simp] theorem reportPhase_encOut (w : Work) : (reportPhase w).next.encOut = w.next.encOut :=
  (reportPhase_frame w).2.2.2.2.2.2.2.2.2.2.2.2.2.2.2.2.2.2.1
@[simp] theorem reportPhase_decOut (w : Work) : (reportPhase w).next.decOut = w.next.decOut :=
  (reportPhase_frame w).2.2.2.2.2.2.2.2.2.2.2.2.2.2.2.2.2.2.2.1
@[simp] theorem reportPhase_params (w : Work) : (reportPhase w).next.params = w.next.params :=
  (reportPhase_frame w).2.2.2.2.2.2.2.2.2.2.2.2.2.2.2.2.2.2.2.2.1
@[simp] theorem reportPhase_script (w : Work) : (reportPhase w).next.script = w.next.script :=
  (reportPhase_frame w).2.2.2.2.2.2.2.2.2.2.2.2.2.2.2.2.2.2.2.2.2

/-! ### The step -/

/-- Two steps whose timer and FSM rules act alike on this state and these ports are the same step. -/
theorem stepWith_congr {t t' f f' : Input → State → Work → Work} {io : Input} {s : State}
    (ht : ∀ w, t io s w = t' io s w) (hf : ∀ w, f io s w = f' io s w) : stepWith t f io s = stepWith t' f' io s := by
  simp only [stepWith, ht, hf]

/-- An edge taken by an operation's own rules is the core's edge, where the rules act as the core's phases do whenever the
operation is selected. -/
theorem edgeVia_eq_clockEdge {sel : Bool} {timer fsm : Input → State → Work → Work} {io : Input} {s : State}
    (ht : sel = true → ∀ w, timer io s w = timerPhase io s w) (hf : sel = true → ∀ w, fsm io s w = fsmPhase io s w) :
    edgeVia sel timer fsm io s = clockEdge io s := by
  unfold edgeVia clockEdge coreStep
  cases sel
  · rfl
  · exact congrArg _ (stepWith_congr (ht rfl) (hf rfl))

end Sys2Proof.Machine
end

