-- ==== Sys2Proof/Laws/PerInstr.lean ====
section
/-! SUPPORT. The statements made per operation: one lemma for each constructor. -/

namespace Sys2Proof.Laws

open Sys2Proof.Machine

/-- The low byte of an input word, from the eight bits of R82's first rows. -/
def lowByte (a b c d e f g h : Bool) : Nat :=
  a.toNat + 2 * b.toNat + 4 * c.toNat + 8 * d.toNat + 16 * e.toNat + 32 * f.toNat + 64 * g.toNat + 128 * h.toNat

/-- The ids and the value lie above the low byte. -/
theorem packWord_low_byte (p : Params) (io : Input) :
    packWord p io % 256
      = lowByte io.rst io.wrEn io.rdEn io.stopReq io.txDone io.txOk io.blankFault io.resOk := by
  have hlt : ∀ a b c d e f g h, lowByte a b c d e f g h < 256 := by decide
  have hsplit : packWord p io
      = lowByte io.rst io.wrEn io.rdEn io.stopReq io.txDone io.txOk io.blankFault io.resOk
        + 256 * (io.wrId + 2 ^ p.idWidth * io.rdId + 2 ^ (2 * p.idWidth) * io.wrVal) := by
    simp only [packWord, lowByte, pow_add]
    ring
  rw [hsplit, Nat.add_mul_mod_self_left, Nat.mod_eq_of_lt (hlt ..)]

/-- The word's low byte has the match of the row under the row's mask (R84). -/
def MapRow.holds (r : MapRow) (w : Nat) : Prop := w % 256 &&& r.mask = r.value

/-- The encoding of a step in which the operation happens has the bits that the operation's own row of R84 asks for.
An operation that only the state selects (R85) has no row there, and ENCODE and DECODE have no word. -/
def RowBits.Statement (i : Instr) : Prop :=
  ∀ (p : Params) (w : Nat), encodeWord p i = some w → ∀ r ∈ operationMap, r.mnemonic = i.mnemonic → MapRow.holds r w

/-- The rows of R84 with a given mnemonic, as a list of their mask and match. -/
def rowsOf (m : String) : List (Nat × Nat) :=
  (operationMap.filter fun r => r.mnemonic == m).map fun r => (r.mask, r.value)

theorem row_mem_rowsOf {r : MapRow} {m : String} (hr : r ∈ operationMap) (hm : r.mnemonic = m) :
    (r.mask, r.value) ∈ rowsOf m := by
  simp only [rowsOf, List.mem_map, List.mem_filter, beq_iff_eq]
  exact ⟨r, ⟨hr, hm⟩, rfl⟩

/-- The one row of the operation, read off its ports: the lemma of the family's arms. -/
theorem rowBits_of_row {i : Instr} {io : Input} {mask value : Nat} (hp : i.ports = some io)
    (hrow : rowsOf i.mnemonic = [(mask, value)])
    (hb : lowByte io.rst io.wrEn io.rdEn io.stopReq io.txDone io.txOk io.blankFault io.resOk &&& mask = value) :
    RowBits.Statement i := by
  intro p w hw r hr hm
  simp only [encodeWord, hp, Option.map_some, Option.some.injEq] at hw
  have h := row_mem_rowsOf hr hm
  simp only [hrow, List.mem_singleton, Prod.mk.injEq] at h
  rw [← hw, MapRow.holds, packWord_low_byte, h.1, h.2]
  exact hb

theorem RowBits.reset (io : Input) : RowBits.Statement (.reset io) :=
  have bits : ∀ b c d e f g h, lowByte true b c d e f g h &&& 0x01 = 0x01 := by decide
  rowBits_of_row rfl rfl (bits ..)

theorem RowBits.setBrightness (io : Input) : RowBits.Statement (.setBrightness io) :=
  have bits : ∀ c d e f g h, lowByte false true c d e f g h &&& 0x03 = 0x02 := by decide
  rowBits_of_row rfl rfl (bits ..)

theorem RowBits.readChannel (io : Input) : RowBits.Statement (.readChannel io) :=
  have bits : ∀ b d e f g h, lowByte false b true d e f g h &&& 0x05 = 0x04 := by decide
  rowBits_of_row rfl rfl (bits ..)

theorem RowBits.stopReq (io : Input) : RowBits.Statement (.stopReq io) :=
  have bits : ∀ b c e f g h, lowByte false b c true e f g h &&& 0x09 = 0x08 := by decide
  rowBits_of_row rfl rfl (bits ..)

theorem RowBits.txDoneOk (io : Input) : RowBits.Statement (.txDoneOk io) :=
  have bits : ∀ b c d g h, lowByte false b c d true true g h &&& 0x31 = 0x30 := by decide
  rowBits_of_row rfl rfl (bits ..)

theorem RowBits.txDoneFail (io : Input) : RowBits.Statement (.txDoneFail io) :=
  have bits : ∀ b c d g h, lowByte false b c d true false g h &&& 0x31 = 0x10 := by decide
  rowBits_of_row rfl rfl (bits ..)

theorem RowBits.blankFault (io : Input) : RowBits.Statement (.blankFault io) :=
  have bits : ∀ b c d e f h, lowByte false b c d e f true h &&& 0x41 = 0x40 := by decide
  rowBits_of_row rfl rfl (bits ..)

theorem RowBits.initCheck (io : Input) : RowBits.Statement (.initCheck io) :=
  have bits : ∀ b c d e f g h, lowByte false b c d e f g h &&& 0x01 = 0x00 := by decide
  rowBits_of_row rfl rfl (bits ..)

theorem RowBits.nop (io : Input) : RowBits.Statement (.nop io) :=
  have bits : ∀ f h, lowByte false false false false false f false h &&& 0x5F = 0x00 := by decide
  rowBits_of_row rfl rfl (bits ..)

/-- The operations with no row in R84 meet the statement emptily. -/
theorem rowBits_of_no_row {i : Instr} (h : rowsOf i.mnemonic = []) : RowBits.Statement i := by
  intro p w _ r hr hm
  have hmem := row_mem_rowsOf hr hm
  rw [h] at hmem
  exact absurd hmem (List.not_mem_nil)

theorem RowBits.timerExpire (io : Input) : RowBits.Statement (.timerExpire io) := rowBits_of_no_row (by rfl)

theorem RowBits.tickAccept (io : Input) : RowBits.Statement (.tickAccept io) := rowBits_of_no_row (by rfl)

theorem RowBits.pulseHold (io : Input) : RowBits.Statement (.pulseHold io) := rowBits_of_no_row (by rfl)

theorem RowBits.pulseEndClean (io : Input) : RowBits.Statement (.pulseEndClean io) := rowBits_of_no_row (by rfl)

theorem RowBits.snapshotSend (io : Input) : RowBits.Statement (.snapshotSend io) := rowBits_of_no_row (by rfl)

theorem RowBits.encode (g : Channels) : RowBits.Statement (.encode g) := rowBits_of_no_row (by rfl)

theorem RowBits.decode (f : Frame) : RowBits.Statement (.decode f) := rowBits_of_no_row (by rfl)

end Sys2Proof.Laws
end

