-- ==== Sys2Proof/Tests/Slice0.lean ====
section
/-! SUPPORT. The model's own tests. Expected values come from spec/95_test_vectors.md (the vector is named in each docstring)
or are worked by hand from the rule named; the last part shows that the hypotheses of every statement can be met. -/

namespace Sys2Proof.Tests

open Sys2Proof.Machine

/-! ### Helpers -/

/-- The test parameters of 95_test_vectors.md. -/
def testParams : Params := { Config.defaults with periodCycles := 8 }

/-- The base state of 95_test_vectors.md section 4. -/
def base : State :=
  { State.resetOf testParams [] with st := .idle, tmr := 5, tmrRun := true, dirty := false, blank := false }

/-- A state of section 5's INIT vectors. -/
def atInit : State := { base with st := .init, dirty := true, tmr := 0, tmrRun := false, blank := true }

/-- The state of section 5's XMIT vectors. -/
def atXmit : State := { base with st := .xmit, dirty := true, tmr := 4, txReq := true }

/-- The state of section 5's STOPPED vectors. -/
def atStopped : State := { base with st := .stopped, tmr := 2, tmrRun := false, stopLat := true }

/-- The next state, where there is one. -/
def nextOf : Host.Outcome State Fault Refusal → Option State
  | .next t => some t
  | .fault _ | .refused _ => none

/-- The state after one step whose input word is `w`. -/
def after (s : State) (w : Nat) : Option State := nextOf (step { s with script := [w] })

/-- The operation that names the step with the input word `w` at the state `s`. -/
def named (s : State) (w : Nat) : Option Instr := (decodeWord s.params w).toOption.map (selectOperation s)

/-! ### Well-formedness: an ill-formed term for each check -/

theorem test_wf_refuses_wide_write_id :
    (Instr.nop { idlePorts with wrId := 256 }).wf Config.defaults = false := by decide
theorem test_wf_refuses_wide_read_id :
    (Instr.nop { idlePorts with rdId := 256 }).wf Config.defaults = false := by decide
theorem test_wf_refuses_wide_value :
    (Instr.nop { idlePorts with wrVal := 2 ^ 32 }).wf Config.defaults = false := by decide
theorem test_wf_refuses_wide_id_of_internal_row :
    (Instr.pulseHold { idlePorts with wrId := 256 }).wf Config.defaults = false := by decide
theorem test_wf_refuses_reset_unselected : (Instr.reset idlePorts).wf Config.defaults = false := by decide
theorem test_wf_refuses_set_brightness_unselected :
    (Instr.setBrightness idlePorts).wf Config.defaults = false := by decide
theorem test_wf_refuses_read_channel_unselected : (Instr.readChannel idlePorts).wf Config.defaults = false := by decide
theorem test_wf_refuses_stop_req_unselected : (Instr.stopReq idlePorts).wf Config.defaults = false := by decide
theorem test_wf_refuses_tx_done_ok_unselected : (Instr.txDoneOk idlePorts).wf Config.defaults = false := by decide
theorem test_wf_refuses_tx_done_fail_unselected : (Instr.txDoneFail idlePorts).wf Config.defaults = false := by decide
theorem test_wf_refuses_blank_fault_unselected : (Instr.blankFault idlePorts).wf Config.defaults = false := by decide
theorem test_wf_refuses_tx_done_ok_with_tx_ok_clear :
    (Instr.txDoneOk { idlePorts with txDone := true }).wf Config.defaults = false := by decide
theorem test_wf_refuses_tx_done_fail_with_tx_ok_set :
    (Instr.txDoneFail { idlePorts with txDone := true, txOk := true }).wf Config.defaults = false := by decide
theorem test_wf_refuses_nop_with_write :
    (Instr.nop { idlePorts with wrEn := true }).wf Config.defaults = false := by decide
theorem test_wf_refuses_nop_with_read :
    (Instr.nop { idlePorts with rdEn := true }).wf Config.defaults = false := by decide
theorem test_wf_refuses_nop_with_stop :
    (Instr.nop { idlePorts with stopReq := true }).wf Config.defaults = false := by decide
theorem test_wf_refuses_nop_with_completion :
    (Instr.nop { idlePorts with txDone := true }).wf Config.defaults = false := by decide
theorem test_wf_refuses_nop_with_link_fault :
    (Instr.nop { idlePorts with blankFault := true }).wf Config.defaults = false := by decide
theorem test_wf_refuses_nop_with_reset :
    (Instr.nop { idlePorts with rst := true }).wf Config.defaults = false := by decide
theorem test_wf_refuses_init_check_in_reset :
    (Instr.initCheck { idlePorts with rst := true }).wf Config.defaults = false := by decide
theorem test_wf_refuses_timer_expire_in_reset :
    (Instr.timerExpire { idlePorts with rst := true }).wf Config.defaults = false := by decide
theorem test_wf_refuses_tick_accept_in_reset :
    (Instr.tickAccept { idlePorts with rst := true }).wf Config.defaults = false := by decide
theorem test_wf_refuses_pulse_hold_in_reset :
    (Instr.pulseHold { idlePorts with rst := true }).wf Config.defaults = false := by decide
theorem test_wf_refuses_pulse_end_clean_in_reset :
    (Instr.pulseEndClean { idlePorts with rst := true }).wf Config.defaults = false := by decide
theorem test_wf_refuses_snapshot_send_in_reset :
    (Instr.snapshotSend { idlePorts with rst := true }).wf Config.defaults = false := by decide
/-- A word that also writes is named SET_BRIGHTNESS. -/
theorem test_wf_refuses_later_row_of_a_shared_word :
    (Instr.readChannel { idlePorts with wrEn := true, rdEn := true }).wf Config.defaults = false := by decide
theorem test_wf_refuses_reset_named_as_a_write :
    (Instr.setBrightness { idlePorts with rst := true, wrEn := true }).wf Config.defaults = false := by decide
theorem test_wf_refuses_read_beside_an_earlier_row :
    (Instr.readChannel { idlePorts with rst := true, rdEn := true }).wf Config.defaults = false := by decide
theorem test_wf_refuses_stop_beside_an_earlier_row :
    (Instr.stopReq { idlePorts with rdEn := true, stopReq := true }).wf Config.defaults = false := by decide
theorem test_wf_refuses_completion_beside_an_earlier_row :
    (Instr.txDoneOk { idlePorts with stopReq := true, txDone := true,
                                     txOk := true }).wf Config.defaults = false := by decide
theorem test_wf_refuses_failure_beside_an_earlier_row :
    (Instr.txDoneFail { idlePorts with stopReq := true, txDone := true }).wf Config.defaults = false := by decide
theorem test_wf_refuses_link_fault_beside_an_earlier_row :
    (Instr.blankFault { idlePorts with txDone := true, blankFault := true }).wf Config.defaults = false := by decide

/-! ### Decoding: words of the spec, one for each row -/

/-- S38: `rst` is bit 0 and names the word whatever else it asks. -/
theorem test_decode_reset :
    decodeWord Config.defaults 0x000000010005B3
      = .ok (.reset { idlePorts with rst := true, wrEn := true, wrId := 5, wrVal := 1, txDone := true,
                                     txOk := true }) := by decide
/-- V-W3: `wr_en` is bit 1, `wr_id` bits 15:8, `wr_val` bits 55:24. -/
theorem test_decode_set_brightness :
    decodeWord Config.defaults 0xFFFFFFFB000382
      = .ok (.setBrightness { idlePorts with wrEn := true, wrId := 3, wrVal := 0xFFFFFFFB }) := by decide
/-- V-W9: `rd_en` is bit 2, `rd_id` bits 23:16. -/
theorem test_decode_read_channel :
    decodeWord Config.defaults 0x00000000C80084
      = .ok (.readChannel { idlePorts with rdEn := true, rdId := 200 }) := by decide
/-- S6: `stop_req` is bit 3. -/
theorem test_decode_stop_req :
    decodeWord Config.defaults 0x00000000000088 = .ok (.stopReq { idlePorts with stopReq := true }) := by decide
/-- S30: `tx_done` is bit 4 and `tx_ok` bit 5, `blank_fault` bit 6 rides along. -/
theorem test_decode_tx_done_ok :
    decodeWord Config.defaults 0x000000000000F0
      = .ok (.txDoneOk { idlePorts with txDone := true, txOk := true, blankFault := true }) := by decide
/-- S25. -/
theorem test_decode_tx_done_fail :
    decodeWord Config.defaults 0x00000000000090 = .ok (.txDoneFail { idlePorts with txDone := true }) := by decide
/-- S3. -/
theorem test_decode_blank_fault :
    decodeWord Config.defaults 0x000000000000C0 = .ok (.blankFault { idlePorts with blankFault := true }) := by decide
/-- R84: bits 5 and 7 do not select a row; bit 7 is `res_ok`. -/
theorem test_decode_nop :
    decodeWord Config.defaults 0x00000000000020
      = .ok (.nop { idlePorts with txOk := true, resOk := false }) := by decide
theorem test_decode_refuses_a_57_bit_number : decodeWord Config.defaults (2 ^ 56) = .error .wordTooWide := by decide
/-- R82 with IN_WIDTH = 16: `wr_val` is bits 39:24 and the word has 40 bits. -/
theorem test_decode_uses_the_narrow_layout :
    decodeWord { Config.defaults with inWidth := 16 } 0xFFFF000082
      = .ok (.setBrightness { idlePorts with wrEn := true, wrVal := 0xFFFF }) := by decide
/-- S1. -/
theorem test_select_init_check : named atInit 0x00000000000080 = some (.initCheck idlePorts) := by decide
/-- S7. -/
theorem test_select_tick_accept :
    named ({ base with tmr := 0 }) 0x00000000000080 = some (.tickAccept idlePorts) := by decide
/-- S9. -/
theorem test_select_pending_tick_accept :
    named ({ base with tmr := 3, tickPend := true }) 0x00000000000080 = some (.tickAccept idlePorts) := by decide
/-- S14. -/
theorem test_select_pulse_hold :
    named ({ base with st := .pulse, pcnt := 2, blank := true }) 0x00000000000080
      = some (.pulseHold idlePorts) := by decide
/-- S15. -/
theorem test_select_pulse_end_clean :
    named ({ base with st := .pulse, tmr := 6, blank := true }) 0x00000000000080
      = some (.pulseEndClean idlePorts) := by decide
/-- S16. -/
theorem test_select_snapshot_send :
    named ({ base with st := .pulse, dirty := true, tmr := 6, blank := true }) 0x00000000000080
      = some (.snapshotSend idlePorts) := by decide
/-- S27. -/
theorem test_select_timer_expire :
    named ({ atXmit with tmr := 0 }) 0x00000000000080 = some (.timerExpire idlePorts) := by decide
/-- S8. -/
theorem test_select_nop : named ({ base with tmr := 3 }) 0x00000000000080 = some (.nop idlePorts) := by decide

/-! ### Encoding -/

/-- V-W2. -/
theorem test_encode_write_70000 :
    encodeWord Config.defaults (.setBrightness { idlePorts with wrId := 4, wrVal := 70000 })
      = some 0x00011170000482 := by decide
/-- S31: `WR 20, 0x1 | FAIL`. -/
theorem test_encode_line : lineWord Config.defaults [.wr 20 1, .fail] = 0x00000001001492 := by decide
/-- V-W3: `WR 3, -5`. -/
theorem test_encode_negative_value : lineWord Config.defaults [.wr 3 (-5)] = 0xFFFFFFFB000382 := by decide
/-- R140, R146. -/
theorem test_encode_gives_encode_and_decode_no_word :
    encodeWord Config.defaults (.encode (Vector.replicate 16 0)) = none
      ∧ encodeWord Config.defaults (.decode (Vector.replicate 24 0)) = none := by decide

/-- R90: the items of P6's step 6, and a step that is not named. -/
theorem test_script_words :
    scriptWords Config.defaults [(0, [.reset]), (2, [.wr 9 0x123]), (2, [.rd 9])] 2 = [0x81, 0x80, 0x00000123090986] := by
  decide

/-! ### One step -/

/-- S38. -/
theorem test_reset_from_halted :
    after ({ base with st := .halted, tmr := 2, tmrRun := false, errInv := true, txerrCnt := 9,
                       lastErr := .raised .hardwareLinkError, gs := base.gs.set 5 0x555 }) 0x000000010005B3
      = some (State.resetOf testParams []) := by decide
/-- V-W2. -/
theorem test_write_clamps_high :
    after base 0x00011170000482
      = some ({ base with dirty := true, wsnap := true, tmr := 4, gs := base.gs.set 4 0xFFF }) := by decide
/-- V-W13. -/
theorem test_write_in_xmit_sets_wsnap :
    after atXmit 0x00000666000682
      = some ({ atXmit with wsnap := true, tmr := 3, gs := base.gs.set 6 0x666 }) := by decide
/-- V-W10. -/
theorem test_read_beside_write_sees_the_old_value :
    after ({ base with gs := base.gs.set 9 0x999 }) 0x00000123090986
      = some ({ base with dirty := true, wsnap := true, tmr := 4, gs := base.gs.set 9 0x123,
                          rdData := 0x999 }) := by decide
/-- V-W9. -/
theorem test_read_of_invalid_id :
    after base 0x00000000C80084
      = some ({ base with tmr := 4, errInv := true, lastErr := .raised .invalidChannel }) := by decide
/-- S11. -/
theorem test_stop_beats_the_tick :
    after ({ base with tmr := 0 }) 0x00000000000088
      = some ({ base with st := .stopped, tmr := 7, tmrRun := false, stopLat := true }) := by decide
/-- S18. -/
theorem test_stop_at_pulse_end :
    after ({ base with st := .pulse, dirty := true, tmr := 6, blank := true }) 0x00000000000088
      = some ({ base with st := .stopped, dirty := true, tmr := 5, tmrRun := false, stopLat := true }) := by decide
/-- S23. -/
theorem test_success_after_a_write_keeps_dirty :
    after ({ atXmit with wsnap := true }) 0x000000000000B0
      = some ({ atXmit with st := .idle, wsnap := true, tmr := 3, txReq := false }) := by decide
/-- S22. -/
theorem test_success_clears_dirty :
    after atXmit 0x000000000000B0
      = some ({ atXmit with st := .idle, dirty := false, tmr := 3, txReq := false }) := by decide
/-- S26. -/
theorem test_failure_saturates :
    after ({ atXmit with txerrCnt := 65535 }) 0x00000000000090
      = some ({ atXmit with st := .idle, tmr := 3, txReq := false, txFail := true, txerrCnt := 65535,
                            lastErr := .raised .transportError }) := by decide
/-- S31. -/
theorem test_failure_beside_invalid_write :
    after atXmit 0x00000001001492
      = some ({ atXmit with st := .idle, tmr := 3, txReq := false, txFail := true, txerrCnt := 1, errInv := true,
                            lastErr := .raised .transportError }) := by decide
/-- S30. -/
theorem test_link_fault_beats_completion :
    after atXmit 0x000000000000F0
      = some ({ atXmit with st := .halted, tmr := 3, tmrRun := false, txReq := false,
                            lastErr := .raised .hardwareLinkError }) := by decide
/-- S3. -/
theorem test_link_fault_in_init :
    after atInit 0x000000000000C0
      = some ({ atInit with st := .cfgfail, lastErr := .raised .configurationError }) := by decide
/-- S2. -/
theorem test_init_check_without_resources :
    after atInit 0x00000000000000
      = some ({ atInit with st := .cfgfail, lastErr := .raised .configurationError }) := by decide
/-- S1. -/
theorem test_init_check_starts_the_timer :
    after atInit 0x00000000000080 = some ({ atInit with st := .idle, tmr := 7, tmrRun := true }) := by decide
/-- S8. -/
theorem test_nop_counts_down :
    after ({ base with tmr := 3 }) 0x00000000000080
      = some ({ base with tmr := 2 }) := by decide
/-- V-X10. -/
theorem test_nop_keeps_the_reports :
    after ({ base with errInv := true, lastErr := .raised .transportError }) 0x00000000000080
      = some ({ base with tmr := 4, errInv := true, lastErr := .raised .transportError }) := by decide
/-- S28. -/
theorem test_second_expiry_in_xmit :
    after ({ atXmit with tmr := 0, tickPend := true }) 0x00000000000080
      = some ({ atXmit with tmr := 7, tickPend := true, ovr := true }) := by decide
/-- S19. -/
theorem test_expiry_in_pulse_is_held :
    after ({ base with st := .pulse, tmr := 0, blank := true }) 0x00000000000080
      = some ({ base with st := .idle, tmr := 7, tickPend := true }) := by decide
/-- S10. -/
theorem test_tick_accept_of_two_expiries :
    after ({ base with tmr := 0, tickPend := true }) 0x00000000000080
      = some ({ base with st := .pulse, tmr := 7, blank := true, ovr := true }) := by decide
/-- S14. -/
theorem test_pulse_hold :
    after ({ base with st := .pulse, pcnt := 2, blank := true }) 0x00000000000080
      = some ({ base with st := .pulse, pcnt := 1, blank := true, tmr := 4 }) := by decide
/-- S15. -/
theorem test_pulse_end_clean :
    after ({ base with st := .pulse, tmr := 6, blank := true }) 0x00000000000080
      = some ({ base with tmr := 5 }) := by decide
/-- S17: the write is not in the frame. -/
theorem test_snapshot_beside_write :
    after ({ base with st := .pulse, dirty := true, tmr := 6, blank := true,
                       gs := base.gs.set 0 0xFFF }) 0x00000ABC000182
      = some ({ atXmit with tmr := 5, wsnap := true, gs := (base.gs.set 0 0xFFF).set 1 0xABC,
                            fb := (base.fb.set 0 0xFF).set 1 0xF0 }) := by decide
/-- S39. -/
theorem test_priority_of_three_causes :
    after ({ base with tmr := 3 }) 0x000000000010F2
      = some ({ base with st := .halted, tmr := 2, tmrRun := false, errInv := true, errProto := true,
                          lastErr := .raised .hardwareLinkError }) := by decide
/-- S32. -/
theorem test_completion_in_stopped :
    after atStopped 0x000000000000B0
      = some ({ atStopped with errProto := true, lastErr := .raised .protocolViolation }) := by decide
/-- V-D6. -/
def randomChannels : Channels :=
  #v[0x91B, 0xCC6, 0xDE8, 0x027, 0xFBC, 0x900, 0xF2E, 0x0D4, 0xD62, 0x4C0, 0xCE6, 0x4DE, 0x000, 0x001, 0xFFE, 0xFFF]

/-- V-D6. -/
def randomFrame : Frame :=
  #v[0x91, 0xBC, 0xC6, 0xDE, 0x80, 0x27, 0xFB, 0xC9, 0x00, 0xF2, 0xE0, 0xD4, 0xD6, 0x24, 0xC0, 0xCE, 0x64, 0xDE, 0x00,
    0x00, 0x01, 0xFF, 0xEF, 0xFF]

/-- V-D6. -/
theorem test_encode_random :
    nextOf (exec (.encode randomChannels) base) = some { base with encOut := randomFrame } := by decide
/-- V-D6. -/
theorem test_decode_random :
    nextOf (exec (.decode randomFrame) base) = some { base with decOut := randomChannels } := by decide
/-- V-E2. -/
theorem test_encode_last_channel :
    nextOf (exec (.encode (base.gs.set 15 0xFFF)) base)
      = some { base with encOut := (base.fb.set 22 0x0F).set 23 0xFF } := by decide

/-! ### Operands and outputs -/

/-- V-S12, V-S11. -/
theorem test_scale_left_clamps :
    scaleClamp { testParams with scaleShift := 4 } 256 = 0xFFF
      ∧ scaleClamp { testParams with scaleShift := 4 } 255 = 0xFF0 := by decide
/-- V-S19, V-S16. -/
theorem test_scale_right_floors :
    scaleClamp { testParams with scaleShift := -4 } (-1) = 0
      ∧ scaleClamp { testParams with scaleShift := -4 } 32768 = 0x800 := by decide
/-- V-S22. -/
theorem test_value_signed_16 : inputValue { testParams with inWidth := 16 } 0xFFFF = -1 := by decide
/-- V-S21. -/
theorem test_value_unsigned_16 :
    inputValue { testParams with inWidth := 16, inSigned := false } 0xFFFF = 65535 := by decide
/-- V-RST1 with BLANK_INIT = 1. -/
theorem test_reset_status : State.reset.status = 0x0088 := by decide
/-- R52 by hand: FATAL, LAST_ERR = 4 (R210), ST = 5 (R36). -/
theorem test_halted_status : ({ base with st := .halted, lastErr := .raised .hardwareLinkError } : State).status = 0xC005 := by
  decide
/-- R250. -/
theorem test_reset_is_not_ready :
    (outputs idlePorts State.reset).ready = false ∧ (outputs idlePorts State.reset).blank = true := by decide

/-! ### The fixed interface -/

/-- R178: a stop in IDLE. -/
theorem test_withFetchWord_runs_the_word :
    nextOf (step (base.withFetchWord 8 0x88))
      = some { base with st := .stopped, tmr := 4, tmrRun := false, stopLat := true } := by decide
theorem test_decodeTableWord_stop :
    decodeTableWord 8 0x08 = some (.stopReq { idlePorts with stopReq := true, resOk := false }) := by decide
/-- R90. -/
theorem test_empty_script_is_nop : nextOf (step base) = some { base with tmr := 4 } := by decide

/-! ### The hypotheses of the statements can be met -/

/-- A state of section 5's PULSE vectors, with one more pulse step to come. -/
def atPulse : State :=
  { base with params := { testParams with pulseCycles := 3 }, st := .pulse, pcnt := 1, tmr := 6, blank := true,
                                          dirty := true }

/-- The last pulse step. -/
def atPulseEnd : State := { base with st := .pulse, tmr := 6, blank := true, dirty := true }

def atHalted : State := { base with st := .halted, tmr := 2, tmrRun := false, lastErr := .raised .hardwareLinkError }

def atCfgfail : State := { atInit with st := .cfgfail, lastErr := .raised .configurationError }

theorem operational_of {s : State} (h : (paramsValid s.params && s.st != .reserved7 && !s.lastErr.isReserved) = true) :
    Operational s := by
  simp only [Bool.and_eq_true, bne_iff_ne, Bool.not_eq_true'] at h
  exact ⟨h.1.1, h.1.2, h.2⟩

theorem witness_operational_in_every_fsm_state :
    Operational atInit ∧ Operational base ∧ Operational atPulse ∧ Operational atXmit ∧ Operational atStopped
      ∧ Operational atHalted ∧ Operational atCfgfail :=
  ⟨operational_of (by decide), operational_of (by decide), operational_of (by decide), operational_of (by decide),
    operational_of (by decide), operational_of (by decide), operational_of (by decide)⟩

theorem witness_DecodeOfEncodeIsTheOperation :
    (Instr.external (.reset { idlePorts with rst := true, wrEn := true, txOk := true })
        && Instr.wf testParams (.reset { idlePorts with rst := true, wrEn := true, txOk := true }))
      ∧ (Instr.external (.setBrightness { idlePorts with wrEn := true, wrId := 255, wrVal := 2 ^ 32 - 1 })
        && Instr.wf testParams (.setBrightness { idlePorts with wrEn := true, wrId := 255, wrVal := 2 ^ 32 - 1 }))
      ∧ (Instr.external (.readChannel { idlePorts with rdEn := true, rdId := 255 })
        && Instr.wf testParams (.readChannel { idlePorts with rdEn := true, rdId := 255 }))
      ∧ (Instr.external (.txDoneFail { idlePorts with txDone := true, blankFault := true })
        && Instr.wf testParams (.txDoneFail { idlePorts with txDone := true, blankFault := true }))
      ∧ (Instr.external (.nop idlePorts) && Instr.wf testParams (.nop idlePorts)) := by decide

theorem witness_EncodeOfDecodeIsTheWord : 0 < 2 ^ testParams.wordBits
      ∧ 2 ^ 56 - 1 < 2 ^ testParams.wordBits := by decide

theorem witness_DecodedOperationIsSelectedByItsRow :
    decodeWord testParams 0x86 = .ok (.setBrightness { idlePorts with wrEn := true, rdEn := true }) := by decide

theorem witness_TooWideWordIsRefused :
    2 ^ { base with script := [2 ^ 56] }.params.wordBits ≤ nextWord { base with script := [2 ^ 56] } := by decide

theorem witness_StepRunsTheDecodedOperation :
    decodeWord base.params (nextWord base) = .ok (.nop idlePorts)
      ∧ decodeWord base.params (nextWord { base with script := [0x81, 0x80] })
        = .ok (.reset { idlePorts with rst := true }) := by decide

theorem witness_EveryOperationIsAViewOfTheStep :
    (Instr.snapshotSend idlePorts).ports = some idlePorts
      ∧ (Instr.nop { idlePorts with wrEn := true }).ports = some idlePorts := by decide

theorem witness_PeriodCounterRunsByItself :
    Operational { base with tmr := 0 } ∧ { base with tmr := 0 }.st ≠ .init ∧ timerExpired { base with tmr := 0 } = true
      ∧ timerExpired base = false ∧ atStopped.tmrRun = false ∧ atStopped.st ≠ .init :=
  ⟨operational_of (by decide), by decide, by decide, by decide, by decide, by decide⟩

theorem witness_UnusedPortsMakeNoDifference :
    let b := { idlePorts with wrId := 255, rdId := 7, wrVal := 1, txOk := true, resOk := false }
    idlePorts ≠ b ∧ idlePorts.rst = b.rst ∧ idlePorts.wrEn = b.wrEn ∧ idlePorts.rdEn = b.rdEn
      ∧ idlePorts.stopReq = b.stopReq ∧ idlePorts.txDone = b.txDone ∧ idlePorts.blankFault = b.blankFault
      ∧ idlePorts.txDone = false ∧ base.st ≠ .init ∧ idlePorts.wrEn = false ∧ idlePorts.rdEn = false := by decide

theorem witness_ParametersNeverChange :
    (∃ t, exec (.nop idlePorts) base = .next t) ∧ (∃ t, exec (.encode base.gs) base = .next t)
      ∧ ∃ t, step base = .next t := ⟨⟨_, rfl⟩, ⟨_, rfl⟩, ⟨_, rfl⟩⟩

theorem witness_ReservedCodesFault :
    (Instr.nop idlePorts).ports = some idlePorts ∧ idlePorts.rst = false ∧ paramsValid testParams = true
      ∧ { base with st := .reserved7 }.st = .reserved7 ∧ base.st ≠ .reserved7
      ∧ { base with lastErr := .reserved6 }.lastErr = .reserved6
      ∧ { base with lastErr := .reserved7 }.lastErr = .reserved7 := by decide

theorem witness_BrokenConfigurationIsRefused :
    { testParams with pulseCycles := 0 }.pulseCycles = 0
      ∧ { testParams with pulseCycles := 8 }.periodCycles ≤ { testParams with pulseCycles := 8 }.pulseCycles
      ∧ { testParams with idWidth := 3 }.idWidth < 4 ∧ { testParams with inWidth := 0 }.inWidth = 0
      ∧ { testParams with scaleShift := -33 }.scaleShift < -({ testParams with scaleShift := -33 }.inWidth : Int)
      ∧ 12 < { testParams with scaleShift := 13 }.scaleShift := by decide

theorem witness_parameters_at_the_bounds_are_valid :
    paramsValid { testParams with pulseCycles := 7, idWidth := 4, scaleShift := -32 } = true
      ∧ paramsValid { testParams with inWidth := 1, scaleShift := 12 } = true := by decide

theorem witness_SetBrightnessWritesOneChannel :
    base.ready = true ∧ atInit.ready = false ∧ { idlePorts with wrId := 15 }.wrId < 16
      ∧ ¬{ idlePorts with wrId := 16 }.wrId < 16 := by decide

theorem witness_ReadChannelShowsTheOldValue :
    base.ready = true ∧ atCfgfail.ready = false ∧ { idlePorts with rdId := 15 }.rdId < 16
      ∧ ¬{ idlePorts with rdId := 16 }.rdId < 16 := by decide

theorem witness_ChannelsChangeOnlyByAcceptedWrites :
    ∃ t, exec (.setBrightness { idlePorts with wrId := 15, wrVal := 7 }) base = .next t ∧ t.gs[15] ≠ base.gs[15] :=
  ⟨_, rfl, by decide⟩

theorem witness_ScaleClampIsMonotoneAndNearest :
    scaled testParams (-1) < 0 ∧ 0 ≤ scaled testParams 0 ∧ scaled testParams 4095 ≤ 4095
      ∧ 4095 < scaled testParams 4096 := by decide

theorem witness_ScalingIsAnExactShift :
    { testParams with scaleShift := 4 }.scaleShift = ((4 : Nat) : Int)
      ∧ { testParams with scaleShift := -4 }.scaleShift = -((4 : Nat) : Int)
      ∧ testParams.scaleShift = ((0 : Nat) : Int) ∧ testParams.scaleShift = -((0 : Nat) : Int) := by decide

theorem witness_WriteValueIsReadByItsSign :
    2 ^ 31 < 2 ^ testParams.inWidth ∧ testParams.inSigned = true ∧ 2 ^ testParams.inWidth ≤ 2 * 2 ^ 31
      ∧ ¬2 ^ testParams.inWidth ≤ 2 * (2 ^ 31 - 1) := by decide

theorem witness_FramebufferIsOnlyRewrittenWhole :
    (∃ t, exec (.snapshotSend idlePorts) { atPulseEnd with gs := base.gs.set 0 1 } = .next t ∧ t.fb ≠ base.fb)
      ∧ ∃ t, exec (.reset idlePorts) { base with fb := base.fb.set 0 1 } = .next t ∧ t.fb ≠ base.fb.set 0 1 :=
  ⟨⟨_, rfl, by decide⟩, ⟨_, rfl, by decide⟩⟩

theorem witness_TransmitCompletions : Operational atXmit ∧ atXmit.st = .xmit ∧ idlePorts.blankFault = false :=
  ⟨operational_of (by decide), by decide, by decide⟩

theorem witness_StrayCompletionIsReportedAndIgnored :
    (base.st = .xmit → idlePorts.blankFault = true)
      ∧ (atXmit.st = .xmit → { idlePorts with blankFault := true }.blankFault = true) := by decide

theorem witness_TimerExpiryReloadsAndIsHeld :
    Operational { base with tmr := 0 } ∧ Operational { atXmit with tmr := 0 } ∧ Operational { atPulseEnd with tmr := 0 }
      ∧ atXmit.tmrRun = true ∧ atPulseEnd.tmrRun = true ∧ stopRequested idlePorts base = false
      ∧ stopRequested { idlePorts with stopReq := true } base = true :=
  ⟨operational_of (by decide), operational_of (by decide), operational_of (by decide), by decide, by decide, by decide,
    by decide⟩

theorem witness_TickAcceptStartsThePulse :
    base.st = .idle ∧ base.tmrRun = true ∧ { base with tmr := 0 }.tmr = 0
      ∧ { base with tickPend := true }.tickPend = true ∧ base.stopLat = false ∧ idlePorts.stopReq = false
      ∧ idlePorts.blankFault = false ∧ paramsValid base.params = true := by decide

theorem witness_PulseHoldKeepsBlankHigh : Operational atPulse ∧ atPulse.st = .pulse ∧ 0 < atPulse.pcnt :=
  ⟨operational_of (by decide), by decide, by decide⟩

theorem witness_LastPulseStep :
    Operational atPulseEnd ∧ Operational { atPulseEnd with dirty := false } ∧ atPulseEnd.st = .pulse
      ∧ atPulseEnd.pcnt = 0 ∧ atPulseEnd.dirty = true ∧ atPulseEnd.stopLat = false :=
  ⟨operational_of (by decide), operational_of (by decide), by decide, by decide, by decide, by decide⟩

theorem witness_NopLeavesTheRegistryAlone :
    (base.st = .idle ∧ timerExpired base = false ∧ base.tickPend = false ∧ base.stopLat = false)
      ∧ atStopped.st.Terminal ∧ atXmit.st = .xmit := by decide

theorem witness_TerminalStatesAreLeftOnlyByReset :
    atStopped.st.Terminal ∧ atHalted.st.Terminal ∧ atCfgfail.st.Terminal
      ∧ (Instr.blankFault idlePorts).ports = some { idlePorts with blankFault := true } := by decide

theorem witness_StickyErrorsHoldUntilReset :
    (∃ t, exec (.txDoneFail idlePorts)
        { atXmit with errInv := true, errProto := true, ovr := true, stopLat := true, txerrCnt := 65535 } = .next t)
      ∧ (Instr.txDoneFail idlePorts).ports = some { idlePorts with txDone := true } :=
  ⟨⟨_, rfl⟩, by decide⟩

theorem witness_coherent_base : Coherent base where
  toOperational := operational_of (by decide)
  xmit_iff_request := by decide
  xmit_dirty := by decide
  timer_iff_running := by decide
  tmr_range := by decide
  pcnt_range := by decide
  pend_running := by decide
  pulse_blank := by decide
  wsnap_dirty := by decide
  fail_after_xmit := by decide
  stopped_latched := by decide
  cfgfail_reported := by decide
  invalid_sticky := by decide
  protocol_sticky := by decide
  transport_counted := by decide

theorem witness_EveryStepKeepsCoherence : Coherent base ∧ ∃ t, step base = .next t :=
  ⟨witness_coherent_base, ⟨_, rfl⟩⟩

theorem witness_CoherentStatesAlwaysStep : Coherent base ∧ nextWord base < 2 ^ base.params.wordBits :=
  ⟨witness_coherent_base, by decide⟩

theorem witness_RunsFromResetNeverStop :
    paramsValid testParams = true ∧ ∀ w ∈ [0x80, 2 ^ 56 - 1], w < 2 ^ testParams.wordBits := by decide

/-- An idle step, an accepted write, the success of S22's state (`dirty` falls), and a snapshot (`wsnap` falls). -/
theorem witness_NoAcceptedWriteIsLost :
    NothingLost base ∧ NothingLost { base with gs := base.gs.set 0 7, wsnap := true, dirty := true } ∧ NothingLost atXmit
      ∧ (∃ t, step base = .next t)
      ∧ (∃ t, step { base with script := [0x00000FFF000082] } = .next t
          ∧ writeAccepted (unpackWord testParams 0x00000FFF000082) base = true)
      ∧ (∃ t, step { atXmit with script := [0xB0] } = .next t ∧ atXmit.dirty = true ∧ t.dirty = false)
      ∧ ∃ t, step { atPulseEnd with wsnap := true } = .next t ∧ t.wsnap = false :=
  ⟨⟨fun _ => by decide, by decide⟩, ⟨fun h => absurd h (by decide), by decide⟩, ⟨fun _ => by decide, by decide⟩,
    ⟨_, rfl⟩, ⟨_, rfl, by decide⟩, ⟨_, rfl, by decide, by decide⟩, ⟨_, rfl, by decide⟩⟩

theorem witness_BlankIsHighExactlyInThePulse :
    (∃ t, exec (.tickAccept idlePorts) { base with tmr := 0 } = .next t ∧ t.st = .pulse) ∧ BlankFollowsPulse base
      ∧ BlankFollowsPulse atPulse ∧ BlankFollowsPulse atXmit ∧ BlankFollowsPulse atHalted ∧ base.st ≠ .init
      ∧ (∃ t, exec (.blankFault idlePorts) base = .next t ∧ t.st = .halted)
      ∧ (∃ t, exec (.blankFault idlePorts) atPulse = .next t ∧ t.st = .halted)
      ∧ (∃ t, exec (.blankFault idlePorts) atXmit = .next t ∧ t.st = .halted)
      ∧ ∃ t, exec (.nop idlePorts) atHalted = .next t ∧ t.st = .halted :=
  ⟨⟨_, rfl, rfl⟩, ⟨by decide, by decide⟩, ⟨by decide, by decide⟩, ⟨by decide, by decide⟩, ⟨by decide, by decide⟩,
    by decide, ⟨_, rfl, rfl⟩, ⟨_, rfl, rfl⟩, ⟨_, rfl, rfl⟩, ⟨_, rfl, rfl⟩⟩

/-- The state and the step of vector S13, and a last pulse step with the same latch. -/
theorem witness_StopRequestIsLatchedAndTaken :
    Operational { base with tmr := 3, stopLat := true } ∧ Operational { atPulseEnd with stopLat := true }
      ∧ (Instr.nop idlePorts).ports = some idlePorts ∧ idlePorts.rst = false ∧ idlePorts.stopReq = false
      ∧ after { base with tmr := 3, stopLat := true } 0x80
        = some { base with st := .stopped, tmr := 2, tmrRun := false, stopLat := true } :=
  ⟨operational_of (by decide), operational_of (by decide), by decide, by decide, by decide, by decide⟩

theorem witness_NominalPeriodOfTheExample : Config.defaults.fGsHz ≠ 0 := by decide

theorem witness_ExpiryGridDoesNotDrift :
    Coherent base ∧ base.tmrRun = true
      ∧ (∀ m ≤ 1, ∃ u, Host.Core.run Sys2Proof.core m base = .next u ∧ u.tmrRun = true)
      ∧ ∃ t, Host.Core.run Sys2Proof.core 1 base = .next t :=
  ⟨witness_coherent_base, by decide,
    fun m hm => match m, hm with
      | 0, _ => ⟨_, rfl, by decide⟩
      | 1, _ => ⟨_, rfl, by decide⟩,
    ⟨_, rfl⟩⟩

theorem witness_BlankPulseLastsItsCount :
    Coherent atPulse ∧ atPulse.st = .pulse ∧ 1 ≤ atPulse.pcnt ∧ 2 = atPulse.pcnt + 1
      ∧ ∀ m < 2, wordAt atPulse.script m < 2 ^ atPulse.params.wordBits
        ∧ (unpackWord atPulse.params (wordAt atPulse.script m)).rst = false
        ∧ (unpackWord atPulse.params (wordAt atPulse.script m)).blankFault = false :=
  ⟨{ toOperational := operational_of (by decide)
     xmit_iff_request := by decide
     xmit_dirty := by decide
     timer_iff_running := by decide
     tmr_range := by decide
     pcnt_range := by decide
     pend_running := by decide
     pulse_blank := by decide
     wsnap_dirty := by decide
     fail_after_xmit := by decide
     stopped_latched := by decide
     cfgfail_reported := by decide
     invalid_sticky := by decide
     protocol_sticky := by decide
     transport_counted := by decide }, by decide, by decide, by decide, by decide⟩

theorem witness_FirstTickAfterResetTransmits :
    paramsValid testParams = true
      ∧ (∀ m ≤ testParams.periodCycles + testParams.pulseCycles, QuietWord testParams (wordAt [] m))
      ∧ (unpackWord testParams (wordAt [] 0)).resOk = true :=
  ⟨by decide, fun m _ => by
    unfold QuietWord wordAt
    simp only [List.getD_nil]
    decide, by decide⟩

theorem witness_AccessesHappenBesideEveryFsmRule :
    Operational base ∧ idlePorts.rst = false ∧ writeAccepted { idlePorts with wrEn := true, wrId := 15 } base = true
      ∧ invalidAccess { idlePorts with wrEn := true, wrId := 16 } base = true :=
  ⟨operational_of (by decide), by decide, by decide, by decide⟩

theorem witness_FsmFollowsTheTransitionTable : Operational atPulseEnd ∧ idlePorts.rst = false :=
  ⟨operational_of (by decide), by decide⟩

theorem witness_ResetLoadsTheResetState :
    paramsValid testParams = true ∧ paramsValid { testParams with blankInit := false } = true
      ∧ 0x81 < 2 ^ testParams.wordBits ∧ Nat.testBit 0x81 0 = true ∧ Nat.testBit 0x80 0 = false := by decide

theorem witness_InitCheckStartsTheTimerOrFails :
    Operational atInit ∧ atInit.st = .init ∧ (idlePorts.resOk = true ∧ idlePorts.blankFault = false)
      ∧ { idlePorts with resOk := false }.resOk = false :=
  ⟨operational_of (by decide), by decide, by decide, by decide⟩

theorem witness_DerivedOutputsFollowTheFsmState : base.st ≠ .reserved7 ∧ atCfgfail.st ≠ .reserved7 := by decide

theorem witness_ResetStateIsCoherent : paramsValid { testParams with periodCycles := 2 } = true := by decide

theorem witness_CountersFitTheirWidths : Coherent { base with tmr := 7 } :=
  { witness_coherent_base with tmr_range := by decide }

end Sys2Proof.Tests
end

section
/-! PROOFS. The scope of the core (00_scope.md): the counters fit the widths R7 gives them, a configuration that breaks R8
has no clock step, and the timing formulas are exact. -/

namespace Sys2Proof.Proofs

open Sys2Proof.Machine

/-! ### The counters and their widths (R7, R224) -/

/-- `counterWidth n` bits hold every count of a cycle of `n` steps. -/
theorem le_two_pow_counterWidth (n : Nat) : n ≤ 2 ^ counterWidth n :=
  calc
    n ≤ 2 ^ Nat.clog 2 n := Nat.le_pow_clog Nat.one_lt_two n
    _ ≤ 2 ^ counterWidth n := Nat.pow_le_pow_right Nat.two_pos (Nat.le_max_right ..)

/-- Settles O50: R37 and R38 keep each counter below the count that its width is taken from. -/
theorem countersFitTheirWidths : Obligations.CountersFitTheirWidths := by
  intro s hs
  have period_fits : s.params.periodCycles ≤ 2 ^ tmrWidth s.params := le_two_pow_counterWidth _
  have pulse_fits : s.params.pulseCycles ≤ 2 ^ pcntWidth s.params := le_two_pow_counterWidth _
  exact ⟨hs.tmr_range.trans_le period_fits, hs.pcnt_range.trans_le pulse_fits, period_fits⟩

/-! ### A broken configuration (R8) -/

/-- The check of R8 fails exactly when one of its constraints is broken. -/
theorem paramsValid_eq_false_iff (p : Params) :
    paramsValid p = false ↔
      p.pulseCycles = 0 ∨ p.periodCycles ≤ p.pulseCycles ∨ p.idWidth < 4 ∨ p.inWidth = 0
        ∨ p.scaleShift < -(p.inWidth : Int) ∨ 12 < p.scaleShift := by
  simp only [paramsValid, Bool.and_eq_false_iff, decide_eq_false_iff_not]
  omega

/-- R7, R268: the check of R8 comes before everything else a clock edge does. -/
theorem atEdge_of_params_invalid {s : State} (hp : paramsValid s.params = false) (io : Input) (body : State) :
    atEdge io s body = .refused .configuration := by
  simp [atEdge, hp]

/-- Every operation that happens in a clock step is a clock edge with the operation's ports, whichever body it runs. -/
theorem exec_eq_atEdge {i : Instr} {io : Input} (hi : i.ports = some io) (s : State) :
    ∃ body, exec i s = atEdge io s body := by
  cases i <;> cases hi
  case blankFault io =>
    by_cases hst : s.st = .init
    · exact ⟨_, if_pos (beq_iff_eq.2 hst)⟩
    · exact ⟨_, if_neg (mt beq_iff_eq.1 hst)⟩
  all_goals exact ⟨_, rfl⟩

/-- Settles O14: every clocked operation is an edge, and an edge checks R8 first. -/
theorem brokenConfigurationIsRefused : Obligations.BrokenConfigurationIsRefused := by
  intro i io s hi hbroken
  obtain ⟨body, hedge⟩ := exec_eq_atEdge hi s
  rw [hedge]
  exact atEdge_of_params_invalid ((paramsValid_eq_false_iff _).2 hbroken) io body

/-! ### The timing formulas (R7, R164) -/

/-- R7's quotient, where it has a value. -/
theorem gsPeriodNs_of_ne_zero {p : Params} (h : p.fGsHz ≠ 0) : gsPeriodNs p = 1000000000 / p.fGsHz := if_neg h

/-- R164's formula as one quotient of the two frequencies: 4096 periods of GSCLK, counted in periods of `clk`. -/
theorem nominalPeriodCycles_of_ne_zero {p : Params} (h : p.fGsHz ≠ 0) (fClkHz : ℚ) :
    nominalPeriodCycles p fClkHz = 4096 * fClkHz / p.fGsHz := by
  rw [nominalPeriodCycles, blankPeriodNs, gsPeriodNs_of_ne_zero h]
  ring

/-- Settles O54: the formulas by cancelling their one division, the worked examples by evaluation at both frequencies. -/
theorem nominalPeriodOfTheExample : Obligations.NominalPeriodOfTheExample := by
  have default_hz : Config.defaults.fGsHz = 2500000 := rfl
  refine ⟨fun p fClkHz hp => ⟨?gs, rfl, ?nominal⟩, ?gs400, ?blank25, ?cycles25, ?blank4, ?cycles4⟩
  case gs => rw [gsPeriodNs_of_ne_zero hp, div_mul_cancel₀ _ (Nat.cast_ne_zero.2 hp)]
  case nominal => exact div_mul_cancel₀ _ (by norm_num)
  case gs400 => norm_num [gsPeriodNs, default_hz]
  case blank25 => norm_num [blankPeriodNs, gsPeriodNs, default_hz]
  case cycles25 => norm_num [nominalPeriodCycles_of_ne_zero, default_hz]
  case blank4 => norm_num [blankPeriodNs, gsPeriodNs]
  case cycles4 => norm_num [nominalPeriodCycles_of_ne_zero]

end Sys2Proof.Proofs
end

section
/-! PROOFS. The state of the core (10_state.md): what a step leaves of the registers that only a reset may clear (R40, R44 to
R47), when it stops at a reserved code (R36), when the framebuffer changes (R32), and what the status word and the derived
outputs show (R52, R53). -/

namespace Sys2Proof.Proofs

open Sys2Proof.Machine

/-! ### Reserved codes (R36, R210) -/

/-- I9: past the check of R8, an edge without `rst` looks at `st` first. -/
theorem atEdge_of_reservedFsmCode {io : Input} {s : State} (hp : paramsValid s.params = true) (hr : io.rst = false)
    (hst : s.st = .reserved7) (body : State) : atEdge io s body = .fault .reservedFsmCode := by
  simp [atEdge, hp, hr, hst]

/-- I10: and at `last_err` second. -/
theorem atEdge_of_reservedErrCode {io : Input} {s : State} (hp : paramsValid s.params = true) (hr : io.rst = false)
    (hst : s.st ≠ .reserved7) (he : s.lastErr.isReserved = true) (body : State) :
    atEdge io s body = .fault .reservedErrCode := by
  simp [atEdge, hp, hr, hst, he]

/-- Settles O13: every clocked operation is an edge, and past R8 and `rst` an edge looks at the two codes. -/
theorem reservedCodesFault : Obligations.ReservedCodesFault := by
  intro i io s hi hr hp
  obtain ⟨body, hedge⟩ := exec_eq_atEdge hi s
  rw [hedge]
  refine ⟨fun hst => atEdge_of_reservedFsmCode hp hr hst body, fun hst he => ?_⟩
  have hres : s.lastErr.isReserved = true := by obtain he | he := he <;> rw [he] <;> rfl
  exact atEdge_of_reservedErrCode hp hr hst hres body

/-! ### Every operation is a view of the one step (R200)

Where the state and the ports select an operation's own rule, the phases of R200 do the same. -/

/-- R161: TIMER_EXPIRE's reload is the timer phase at an expiry. -/
theorem timerPhase_of_timerExpired {s : State} (h : timerExpired s = true) (io : Input) (w : Work) :
    timerPhase io s w = timerReload io s w := by
  have hrun : s.tmrRun = true := (Bool.and_eq_true_iff.1 h).1
  simp [timerPhase, h, hrun]

theorem fsmPhase_of_init {s : State} (h : s.st = .init) (io : Input) (w : Work) :
    fsmPhase io s w = initCheckRule io s w := by
  simp [fsmPhase, h]

theorem fsmPhase_of_idle {s : State} (h : s.st = .idle) (io : Input) (w : Work) :
    fsmPhase io s w = idleRule io s w := by
  simp [fsmPhase, h]

theorem fsmPhase_of_pulse {s : State} (h : s.st = .pulse) (io : Input) (w : Work) :
    fsmPhase io s w = pulseRule io s w := by
  simp [fsmPhase, h]

theorem fsmPhase_of_xmit {s : State} (h : s.st = .xmit) (io : Input) (w : Work) :
    fsmPhase io s w = xmitRule io s w := by
  simp [fsmPhase, h]

/-- R179, R181, R182: no rule acts while the timer is stopped for good. -/
theorem fsmPhase_of_gsclkEn_false {s : State} (hinit : s.st ≠ .init) (h : s.gsclkEn = false) (io : Input) (w : Work) :
    fsmPhase io s w = w := by
  cases hs : s.st <;> simp_all [fsmPhase, State.gsclkEn]

/-- R180: a link fault comes before everything else the running states do. -/
theorem fsmPhase_of_blankFault {io : Input} {s : State} (hb : io.blankFault = true) (h : s.gsclkEn = true) (w : Work) :
    fsmPhase io s w = raise .hardwareLinkError w := by
  cases hs : s.st <;> simp_all [fsmPhase, State.gsclkEn, idleRule, pulseRule, xmitRule]

/-- R168: INIT checks `blank_fault` beside the resources. -/
theorem fsmPhase_of_init_blankFault {io : Input} {s : State} (hs : s.st = .init) (hb : io.blankFault = true) (w : Work) :
    fsmPhase io s w = raise .configurationError w := by
  simp [fsmPhase_of_init hs, initCheckRule, hb]

theorem fsmPhase_of_completionTaken {io : Input} {s : State} (h : completionTaken io s = true)
    (hdone : io.txDone = true) (w : Work) :
    fsmPhase io s w = if io.txOk then txDoneOkRule io s w else txDoneFailRule io s w := by
  simp only [completionTaken, Bool.and_eq_true, beq_iff_eq, Bool.not_eq_true'] at h
  obtain ⟨hst, hfault⟩ := h
  simp [fsmPhase_of_xmit hst, xmitRule, hfault, hdone]

theorem fsmPhase_of_tickAcceptSelected {io : Input} {s : State} (h : tickAcceptSelected io s = true) (w : Work) :
    fsmPhase io s w = tickAcceptRule io s w := by
  simp only [tickAcceptSelected, Bool.and_eq_true, beq_iff_eq, Bool.not_eq_true'] at h
  obtain ⟨⟨⟨hst, htick⟩, hstop⟩, hfault⟩ := h
  simp [fsmPhase_of_idle hst, idleRule, htick, hstop, hfault]

theorem fsmPhase_of_pulseHoldSelected {io : Input} {s : State} (h : pulseHoldSelected io s = true) (w : Work) :
    fsmPhase io s w = pulseHoldRule io s w := by
  simp only [pulseHoldSelected, Bool.and_eq_true, beq_iff_eq, decide_eq_true_eq, Bool.not_eq_true'] at h
  obtain ⟨⟨hst, hcount⟩, hfault⟩ := h
  simp [fsmPhase_of_pulse hst, pulseRule, hcount, hfault]

/-- SNAPSHOT_SEND's conditions of R85, one by one. -/
theorem snapshotSendSelected_iff (io : Input) (s : State) :
    snapshotSendSelected io s = true ↔
      s.st = .pulse ∧ s.pcnt = 0 ∧ s.dirty = true ∧ stopRequested io s = false ∧ io.blankFault = false := by
  simp [snapshotSendSelected, and_assoc]

theorem fsmPhase_of_snapshotSendSelected {io : Input} {s : State} (h : snapshotSendSelected io s = true) (w : Work) :
    fsmPhase io s w = snapshotSendRule io s w := by
  obtain ⟨hst, hcount, hdirty, hstop, hfault⟩ := (snapshotSendSelected_iff io s).1 h
  simp [fsmPhase_of_pulse hst, pulseRule, hcount, hdirty, hstop, hfault]

theorem fsmPhase_of_pulseEndCleanSelected {io : Input} {s : State} (h : pulseEndCleanSelected io s = true) (w : Work) :
    fsmPhase io s w = pulseEndCleanRule io s w := by
  simp only [pulseEndCleanSelected, Bool.and_eq_true, beq_iff_eq, Bool.not_eq_true'] at h
  obtain ⟨⟨⟨⟨hst, hcount⟩, hclean⟩, hstop⟩, hfault⟩ := h
  simp [fsmPhase_of_pulse hst, pulseRule, hcount, hclean, hstop, hfault]

/-- BLANK_FAULT's three meanings, by FSM state, are those of the FSM phase (R168, R180). -/
theorem execBlankFault_eq_clockEdge (io : Input) (s : State) :
    execBlankFault io s = clockEdge { io with rst := false, blankFault := true } s := by
  unfold execBlankFault
  by_cases hst : s.st = .init
  · rw [if_pos (beq_iff_eq.2 hst)]
    exact edgeVia_eq_clockEdge (fun _ _ => rfl) fun _ w => (fsmPhase_of_init_blankFault hst rfl w).symm
  · rw [if_neg (mt beq_iff_eq.1 hst)]
    exact edgeVia_eq_clockEdge (fun _ _ => rfl) fun h w => (fsmPhase_of_blankFault rfl h w).symm

/-- R200: each clocked operation is the core's step with the operation's ports. -/
theorem exec_eq_clockEdge {i : Instr} {io : Input} (hi : i.ports = some io) (s : State) :
    exec i s = clockEdge io s := by
  cases i <;> cases hi
  case reset | setBrightness | readChannel | stopReq | nop => rfl
  case txDoneOk =>
    exact edgeVia_eq_clockEdge (fun _ _ => rfl) fun h w => (fsmPhase_of_completionTaken h rfl w).symm
  case txDoneFail =>
    exact edgeVia_eq_clockEdge (fun _ _ => rfl) fun h w => (fsmPhase_of_completionTaken h rfl w).symm
  case blankFault io => exact execBlankFault_eq_clockEdge io s
  case initCheck =>
    exact edgeVia_eq_clockEdge (fun _ _ => rfl) fun h w => (fsmPhase_of_init (beq_iff_eq.1 h) _ w).symm
  case timerExpire =>
    exact edgeVia_eq_clockEdge (fun h w => (timerPhase_of_timerExpired h _ w).symm) fun _ _ => rfl
  case tickAccept =>
    exact edgeVia_eq_clockEdge (fun _ _ => rfl) fun h w => (fsmPhase_of_tickAcceptSelected h w).symm
  case pulseHold =>
    exact edgeVia_eq_clockEdge (fun _ _ => rfl) fun h w => (fsmPhase_of_pulseHoldSelected h w).symm
  case pulseEndClean =>
    exact edgeVia_eq_clockEdge (fun _ _ => rfl) fun h w => (fsmPhase_of_pulseEndCleanSelected h w).symm
  case snapshotSend =>
    exact edgeVia_eq_clockEdge (fun _ _ => rfl) fun h w => (fsmPhase_of_snapshotSendSelected h w).symm

/-- What an operation can lead to: the reset state, the step of R200, or, where it is no clock step, the same state with
another recorded result (R140, R146). -/
theorem exec_next_cases {i : Instr} {s t : State} (h : exec i s = .next t) :
    (∃ io, i.ports = some io ∧ io.rst = true ∧ t = State.resetOf s.params s.script)
      ∨ (∃ io, i.ports = some io ∧ io.rst = false ∧ t = coreStep io s)
      ∨ (i.ports = none ∧ ∃ enc dec, t = { s with encOut := enc, decOut := dec }) := by
  cases hports : i.ports with
  | some io =>
    rw [exec_eq_clockEdge hports, clockEdge, atEdge_eq_next] at h
    obtain ⟨-, ⟨hr, rfl⟩ | ⟨hr, -, -, rfl⟩⟩ := h
    · exact .inl ⟨io, rfl, hr, rfl⟩
    · exact .inr (.inl ⟨io, rfl, hr, rfl⟩)
  | none =>
    cases i with
    | encode g => cases h; exact .inr (.inr ⟨rfl, encodeFrame g, s.decOut, rfl⟩)
    | decode f => cases h; exact .inr (.inr ⟨rfl, s.encOut, decodeFrame f, rfl⟩)
    | _ => cases hports

/-- The same for the operations that are no reset. -/
theorem exec_next_cases_of_not_rst {i : Instr} {s t : State} (h : exec i s = .next t)
    (hrst : ∀ io, i.ports = some io → io.rst = false) :
    (∃ io, i.ports = some io ∧ t = coreStep io s) ∨ ∃ enc dec, t = { s with encOut := enc, decOut := dec } := by
  obtain ⟨io, hi, hr, -⟩ | ⟨io, hi, -, ht⟩ | ⟨-, hrec⟩ := exec_next_cases h
  · simp [hrst io hi] at hr
  · exact .inl ⟨io, hi, ht⟩
  · exact .inr hrec

/-! ### What the phases write of the sticky bits, the failure counter and the framebuffer -/

@[simp] theorem registryWrite_errInv (io : Input) (s : State) (w : Work) :
    (registryWrite io s w).next.errInv = (w.next.errInv || (s.ready && (io.wrEn && decide (16 ≤ io.wrId)))) := by
  unfold registryWrite
  by_cases hacc : (io.wrEn && s.ready) = true
  · obtain ⟨hen, hready⟩ := Bool.and_eq_true_iff.1 hacc
    by_cases hid : io.wrId < 16
    · simp [hen, hready, hid]
    · simp [hen, hready, hid, causeEffect, Nat.le_of_not_lt hid]
  · cases hen : io.wrEn <;> simp_all

@[simp] theorem registryRead_errInv (io : Input) (s : State) (w : Work) :
    (registryRead io s w).next.errInv = (w.next.errInv || (s.ready && (io.rdEn && decide (16 ≤ io.rdId)))) := by
  have hcomm : (io.rdEn && s.ready && decide (16 ≤ io.rdId)) = (s.ready && (io.rdEn && decide (16 ≤ io.rdId))) := by
    rw [Bool.and_comm io.rdEn, Bool.and_assoc]
  simp only [registryRead, hcomm]
  cases s.ready && (io.rdEn && decide (16 ≤ io.rdId)) <;> simp [causeEffect]

@[simp] theorem strayCompletion_errProto (io : Input) (s : State) (w : Work) :
    (strayCompletion io s w).next.errProto = (w.next.errProto || strayDone io s) := by
  have hcond : (io.txDone && (s.st == .init || s.st == .idle || s.st == .pulse || s.st == .stopped)) = strayDone io s := by
    cases hs : s.st <;> simp [strayDone, hs]
  unfold strayCompletion
  rw [hcond]
  cases strayDone io s <;> simp [causeEffect]

/-- An expiry of this step meets one that is held, in a state that neither a link fault nor IDLE's stop keeps from holding or
accepting it (R46, R162, R169, R170). -/
def expiriesFold (io : Input) (s : State) : Bool :=
  s.gsclkEn && !io.blankFault && !(s.st == .idle && stopRequested io s) && (timerExpired s && s.tickPend)

/-- A completion counts as a failure (R175). -/
def failureTaken (io : Input) (s : State) : Bool := completionTaken io s && io.txDone && !io.txOk

/-- What the FSM rule of a step writes of the framebuffer (R172), the overrun bit (R46) and the failure counter (R47). -/
structure FsmWrites (io : Input) (s : State) (w w' : Work) : Prop where
  fb : w'.next.fb = if snapshotSendSelected io s then encodeFrame s.gs else w.next.fb
  ovr : w'.next.ovr = (w.next.ovr || expiriesFold io s)
  txerrCnt : w'.next.txerrCnt = if failureTaken io s then sat16 (w.next.txerrCnt.toNat + 1) else w.next.txerrCnt

@[simp] theorem pendIfExpired_fb (s : State) (w : Work) : (pendIfExpired s w).next.fb = w.next.fb := by
  rw [pendIfExpired_eq]

@[simp] theorem pendIfExpired_txerrCnt (s : State) (w : Work) :
    (pendIfExpired s w).next.txerrCnt = w.next.txerrCnt := by
  rw [pendIfExpired_eq]

@[simp] theorem pendIfExpired_ovr (s : State) (w : Work) :
    (pendIfExpired s w).next.ovr = (w.next.ovr || (timerExpired s && s.tickPend)) := by
  rw [pendIfExpired_eq]
  exact Bool.or_comm ..

@[simp] theorem leaveXmit_fb (io : Input) (s : State) (w : Work) : (leaveXmit io s w).next.fb = w.next.fb := by
  unfold leaveXmit; split <;> rfl

@[simp] theorem leaveXmit_ovr (io : Input) (s : State) (w : Work) : (leaveXmit io s w).next.ovr = w.next.ovr := by
  unfold leaveXmit; split <;> rfl

@[simp] theorem leaveXmit_txerrCnt (io : Input) (s : State) (w : Work) :
    (leaveXmit io s w).next.txerrCnt = w.next.txerrCnt := by
  unfold leaveXmit; split <;> rfl

section
variable {io : Input} {s : State}

/-- The FSM rules that write none of the three. -/
theorem FsmWrites.of_keeps {w w' : Work} (hsnap : snapshotSendSelected io s = false) (hfold : expiriesFold io s = false)
    (hfail : failureTaken io s = false) (hfb : w'.next.fb = w.next.fb) (hovr : w'.next.ovr = w.next.ovr)
    (hcnt : w'.next.txerrCnt = w.next.txerrCnt) : FsmWrites io s w w' :=
  ⟨by simp [hsnap, hfb], by simp [hfold, hovr], by simp [hfail, hcnt]⟩

theorem initCheckRule_writes (hs : s.st = .init) (w : Work) : FsmWrites io s w (initCheckRule io s w) := by
  apply FsmWrites.of_keeps
  case hsnap | hfold | hfail =>
    simp [snapshotSendSelected, expiriesFold, State.gsclkEn, failureTaken, completionTaken, hs]
  all_goals unfold initCheckRule; split <;> rfl

theorem idleRule_writes (hs : s.st = .idle) (w : Work) : FsmWrites io s w (idleRule io s w) := by
  have hsnap : snapshotSendSelected io s = false := by simp [snapshotSendSelected, hs]
  have hfail : failureTaken io s = false := by simp [failureTaken, completionTaken, hs]
  unfold idleRule
  by_cases hfault : io.blankFault = true
  · constructor <;> simp [hfault, hsnap, hfail, expiriesFold, causeEffect]
  by_cases hstop : stopRequested io s = true
  · constructor <;> simp [hfault, hstop, hsnap, hfail, expiriesFold, hs, enterStopped_eq]
  by_cases htick : (timerExpired s || s.tickPend) = true
  · have hfold : expiriesFold io s = (timerExpired s && s.tickPend) := by
      simp [expiriesFold, State.gsclkEn, hs, hfault, hstop]
    constructor <;> simp [hfault, hstop, htick, hsnap, hfail, hfold, tickAcceptRule, Bool.or_comm]
  · have hfold : expiriesFold io s = false := by simp_all [expiriesFold]
    constructor <;> simp [hfault, hstop, htick, hsnap, hfail, hfold]

theorem pulseRule_writes (hs : s.st = .pulse) (w : Work) : FsmWrites io s w (pulseRule io s w) := by
  have hfail : failureTaken io s = false := by simp [failureTaken, completionTaken, hs]
  unfold pulseRule
  by_cases hfault : io.blankFault = true
  · constructor <;> simp [hfault, hfail, snapshotSendSelected, expiriesFold, causeEffect]
  have hfold : expiriesFold io s = (timerExpired s && s.tickPend) := by simp [expiriesFold, State.gsclkEn, hs, hfault]
  by_cases hcount : 0 < s.pcnt
  · have hsnap : snapshotSendSelected io s = false := by simp [snapshotSendSelected, Nat.ne_of_gt hcount]
    constructor <;> simp [hfault, hcount, hsnap, hfail, hfold, pulseHoldRule]
  have hzero : s.pcnt = 0 := Nat.eq_zero_of_not_pos hcount
  by_cases hstop : stopRequested io s = true
  · have hsnap : snapshotSendSelected io s = false := by simp [snapshotSendSelected, hstop]
    constructor <;> simp [hfault, hzero, hstop, hsnap, hfail, hfold, pulseStopRule, enterStopped_eq]
  by_cases hdirty : s.dirty = true
  · have hsnap : snapshotSendSelected io s = true := by simp [snapshotSendSelected, hs, hzero, hstop, hdirty, hfault]
    constructor <;> simp [hfault, hzero, hstop, hdirty, hsnap, hfail, hfold, snapshotSendRule]
  · have hsnap : snapshotSendSelected io s = false := by simp [snapshotSendSelected, hdirty]
    constructor <;> simp [hfault, hzero, hstop, hdirty, hsnap, hfail, hfold, pulseEndCleanRule]

theorem xmitRule_writes (hs : s.st = .xmit) (w : Work) : FsmWrites io s w (xmitRule io s w) := by
  have hsnap : snapshotSendSelected io s = false := by simp [snapshotSendSelected, hs]
  unfold xmitRule
  by_cases hfault : io.blankFault = true
  · constructor <;> simp [hfault, hsnap, failureTaken, completionTaken, expiriesFold, causeEffect]
  have hfold : expiriesFold io s = (timerExpired s && s.tickPend) := by simp [expiriesFold, State.gsclkEn, hs, hfault]
  have hfail : failureTaken io s = (io.txDone && !io.txOk) := by simp [failureTaken, completionTaken, hs, hfault]
  by_cases hdone : io.txDone = true
  · by_cases hok : io.txOk = true
    · constructor <;> simp [hfault, hdone, hok, hsnap, hfail, hfold, txDoneOkRule]
    · constructor <;> simp [hfault, hdone, hok, hsnap, hfail, hfold, txDoneFailRule, causeEffect]
  · constructor <;> simp [hfault, hdone, hsnap, hfail, hfold]

/-- The FSM phase rewrites the framebuffer at a snapshot alone, sets `ovr` where two expiries fold, and counts a failure. -/
theorem fsmPhase_writes (io : Input) (s : State) (w : Work) : FsmWrites io s w (fsmPhase io s w) := by
  cases hs : s.st
  case init => exact fsmPhase_of_init hs io w ▸ initCheckRule_writes hs w
  case idle => exact fsmPhase_of_idle hs io w ▸ idleRule_writes hs w
  case pulse => exact fsmPhase_of_pulse hs io w ▸ pulseRule_writes hs w
  case xmit => exact fsmPhase_of_xmit hs io w ▸ xmitRule_writes hs w
  case stopped | halted | cfgfail | reserved7 =>
    rw [fsmPhase_of_gsclkEn_false (by simp [hs]) (by simp [State.gsclkEn, hs])]
    apply FsmWrites.of_keeps <;>
      simp [snapshotSendSelected, expiriesFold, State.gsclkEn, failureTaken, completionTaken, hs]

end

/-! ### What the step writes of them -/

@[simp] theorem coreStep_params (io : Input) (s : State) : (coreStep io s).params = s.params := by
  simp [coreStep, stepWith, dirtyPhase, stopPhase, timerPhase_eq, startWork]

@[simp] theorem coreStep_script (io : Input) (s : State) : (coreStep io s).script = s.script := by
  simp [coreStep, stepWith, dirtyPhase, stopPhase, timerPhase_eq, startWork]

/-- R178: the teardown latch. -/
@[simp] theorem coreStep_stopLat (io : Input) (s : State) : (coreStep io s).stopLat = (s.stopLat || io.stopReq) := by
  simp [coreStep, stepWith, stopPhase]

/-- R44: the bit is set by INVALID_CHANNEL's condition of R211, from the write or from the read. -/
@[simp] theorem coreStep_errInv (io : Input) (s : State) : (coreStep io s).errInv = (s.errInv || invalidAccess io s) := by
  simp [coreStep, stepWith, dirtyPhase, stopPhase, timerPhase_eq, startWork, invalidAccess, Bool.or_assoc,
    Bool.and_or_distrib_left]

/-- R45: the bit is set by PROTOCOL_VIOLATION's condition of R211. -/
@[simp] theorem coreStep_errProto (io : Input) (s : State) : (coreStep io s).errProto = (s.errProto || strayDone io s) := by
  simp [coreStep, stepWith, dirtyPhase, stopPhase, timerPhase_eq, startWork]

/-- R46: the bit is set where the step folds two expiries into one tick. -/
@[simp] theorem coreStep_ovr (io : Input) (s : State) : (coreStep io s).ovr = (s.ovr || expiriesFold io s) := by
  simp [coreStep, stepWith, dirtyPhase, stopPhase, timerPhase_eq, startWork, (fsmPhase_writes ..).ovr]

/-- R47, R175: the counter counts failures up to its bound. -/
@[simp] theorem coreStep_txerrCnt (io : Input) (s : State) :
    (coreStep io s).txerrCnt = if failureTaken io s then sat16 (s.txerrCnt.toNat + 1) else s.txerrCnt := by
  simp [coreStep, stepWith, dirtyPhase, stopPhase, timerPhase_eq, startWork, (fsmPhase_writes ..).txerrCnt]

/-- R172, R184 (e): a snapshot takes the registers as they were before the step. -/
@[simp] theorem coreStep_fb (io : Input) (s : State) :
    (coreStep io s).fb = if snapshotSendSelected io s then encodeFrame s.gs else s.fb := by
  simp [coreStep, stepWith, dirtyPhase, stopPhase, timerPhase_eq, startWork, (fsmPhase_writes ..).fb]

/-- Settles O27: of the three things an operation can lead to, a recorded result keeps the framebuffer, and the step of R200
writes it where it selects SNAPSHOT_SEND. -/
theorem framebufferIsOnlyRewrittenWhole : Obligations.FramebufferIsOnlyRewrittenWhole := by
  intro i s t h hfb
  obtain ⟨io, hi, hr, -⟩ | ⟨io, hi, -, rfl⟩ | ⟨-, enc, dec, rfl⟩ := exec_next_cases h
  case inl => exact ⟨io, hi, .inl hr⟩
  case inr.inl =>
    rw [coreStep_fb] at hfb
    have hsel : snapshotSendSelected io s = true := by
      by_contra hsel
      exact hfb (if_neg hsel)
    obtain ⟨hst, hcount, hdirty, hstop, hfault⟩ := (snapshotSendSelected_iff io s).1 hsel
    exact ⟨io, hi, .inr ⟨hst, hcount, hdirty, hstop, hfault, by rw [coreStep_fb, if_pos hsel]⟩⟩
  case inr.inr => exact absurd rfl hfb

/-- R9: the saturated sum of a 16-bit counter and one is no less than the counter. -/
theorem le_toNat_sat16_succ (x : BitVec 16) : x.toNat ≤ (sat16 (x.toNat + 1)).toNat := by
  have hx : x.toNat < 65536 := x.isLt
  simp only [sat16, BitVec.toNat_ofNat]
  omega

/-- Settles O40: without `rst` each sticky bit is written as itself or a condition of the step, and the counter as itself or
its saturated successor. -/
theorem stickyErrorsHoldUntilReset : Obligations.StickyErrorsHoldUntilReset := by
  intro i s t h hrst
  obtain ⟨io, -, rfl⟩ | ⟨enc, dec, rfl⟩ := exec_next_cases_of_not_rst h hrst
  case inl =>
    have hcnt : s.txerrCnt.toNat ≤ (coreStep io s).txerrCnt.toNat := by
      rw [coreStep_txerrCnt]
      split
      · exact le_toNat_sat16_succ _
      · exact le_rfl
    refine ⟨fun hs => ?_, fun hs => ?_, fun hs => ?_, fun hs => ?_, hcnt⟩ <;> simp [hs]
  case inr => exact ⟨id, id, id, id, le_rfl⟩

/-- Settles O12: neither `ResetState`, nor the step of R200, nor a recorded result changes the parameters or the script, and
`step` runs its operation at the state without the word it took. -/
theorem parametersNeverChange : Obligations.ParametersNeverChange := by
  have hexec : ∀ (i : Instr) (s t : State), exec i s = .next t → t.params = s.params ∧ t.script = s.script := by
    intro i s t h
    obtain ⟨io, -, -, rfl⟩ | ⟨io, -, -, rfl⟩ | ⟨-, enc, dec, rfl⟩ := exec_next_cases h <;> simp
  refine ⟨hexec, fun s t h => ?_⟩
  unfold step at h
  split at h
  · cases h
  · exact hexec _ _ _ h

/-! ### The status word and the derived outputs (R52, R53) -/

theorem fatal_iff (s : State) : s.fatal = true ↔ s.st = .halted ∨ s.st = .cfgfail := by simp [State.fatal]

/-- R52: ST is the low three bits. -/
theorem status_st (s : State) : s.status.extractLsb' 0 3 = s.st.code := by
  rw [State.status, BitVec.extractLsb'_append_eq_right]

/-- R52: LAST_ERR stands above the nine flags and ST. -/
theorem status_lastErr (s : State) : s.status.extractLsb' 12 3 = s.lastErr.code := by
  rw [State.status]
  iterate 10 rw [BitVec.extractLsb'_append_eq_of_le (by decide)]
  exact BitVec.extractLsb'_append_eq_right

/-- R52, R53: bit 15 is FATAL. -/
theorem status_fatal (s : State) : s.status.getLsbD 15 = s.fatal := by
  rw [State.status]
  iterate 11 rw [BitVec.getLsbD_append, if_neg (by decide)]
  simp

/-- R52: the nine flags between ST and LAST_ERR. -/
theorem status_flags (s : State) :
    s.status.getLsbD 3 = s.dirty ∧ s.status.getLsbD 4 = s.wsnap ∧ s.status.getLsbD 5 = s.tickPend
      ∧ s.status.getLsbD 6 = s.stopLat ∧ s.status.getLsbD 7 = s.blank ∧ s.status.getLsbD 8 = s.txReq
      ∧ s.status.getLsbD 9 = s.errInv ∧ s.status.getLsbD 10 = s.errProto ∧ s.status.getLsbD 11 = s.ovr := by
  rw [State.status]
  refine ⟨?_, ?_, ?_, ?_, ?_, ?_, ?_, ?_, ?_⟩
  all_goals
    repeat rw [BitVec.getLsbD_append]
    simp

/-- Settles O41: each field is cut out of the word at its place, and a code is read off its table. -/
theorem statusWordShowsTheState : Obligations.StatusWordShowsTheState := by
  intro s
  obtain ⟨hdirty, hwsnap, htick, hstop, hblank, hreq, hinv, hproto, hovr⟩ := status_flags s
  refine ⟨?st, hdirty, hwsnap, htick, hstop, hblank, hreq, hinv, hproto, hovr, ?lastErr, ?fatal⟩
  case st => rw [status_st]; cases s.st <;> rfl
  case lastErr =>
    rw [status_lastErr]
    cases s.lastErr with
    | raised c => cases c <;> rfl
    | none | reserved6 | reserved7 => rfl
  case fatal => rw [status_fatal, fatal_iff]

/-- R53, R12: byte `j` of `tx_data`, counted from the most significant end. -/
theorem frameBits_byte (f : Frame) (j : Nat) (h : j < 24) : (frameBits f).extractLsb' (184 - 8 * j) 8 = f[j] := by
  rw [frameBits]
  obtain rfl | hpos := Nat.eq_zero_or_pos j
  · iterate 23 rw [BitVec.extractLsb'_append_eq_of_le (by decide)]
    exact BitVec.extractLsb'_eq_self
  interval_cases j
  all_goals
    repeat rw [BitVec.extractLsb'_append_eq_of_le (by decide)]
    exact BitVec.extractLsb'_append_eq_right

/-- Settles O42: the level outputs are their disjunctions of FSM states, and `tx_data` is the framebuffer, byte by byte. -/
theorem derivedOutputsFollowTheFsmState : Obligations.DerivedOutputsFollowTheFsmState := by
  intro io s _
  refine ⟨?ready, ?quiescent, ?gsclkEn, fatal_iff s, status_fatal s, frameBits_byte s.fb⟩
  case ready => simp [outputs, State.ready]
  case quiescent => simp [outputs, State.quiescent, or_assoc]
  case gsclkEn => simp [outputs, State.gsclkEn, or_assoc]

end Sys2Proof.Proofs
end

section
/-! PROOFS. The registers and the framebuffer as the core's memory (20_memory.md R73): what a step writes of `wsnap` and
`dirty` (R34, R35), and why no accepted write is lost. -/

namespace Sys2Proof.Proofs

open Sys2Proof.Machine

/-! ### A step is one clock edge with the ports of its word (R84, R85, R88) -/

/-- The decoder and the selection by the state name a step with other constructors, but all carry the sampled ports. -/
theorem selectOperation_operationOf_ports (s : State) (io : Input) :
    (selectOperation s (operationOf io)).ports = some io := by
  obtain ⟨rst, wrEn, rdEn, stopReq, txDone, txOk, blankFault, resOk, wrId, rdId, wrVal⟩ := io
  cases rst
  case true => rfl
  cases wrEn
  case true => rfl
  cases rdEn
  case true => rfl
  cases stopReq
  case true => rfl
  cases txDone
  case true => cases txOk <;> rfl
  cases blankFault
  case true => rfl
  simp only [operationOf, selectOperation, Bool.false_eq_true, if_false]
  repeat' split
  all_goals rfl

/-- R200: where the word is an input word, the step is the core's edge at the state without that word. -/
theorem step_eq_clockEdge {s : State} (h : nextWord s < 2 ^ s.params.wordBits) :
    step s = clockEdge (unpackWord s.params (nextWord s)) (consumeWord s) := by
  simp only [step, decodeWord, if_pos h]
  exact exec_eq_clockEdge (selectOperation_operationOf_ports s _) _

/-- What a step can lead to: the reset state, or the step of R200 at the state without the word taken. -/
theorem step_next_cases {s t : State} (h : step s = .next t) :
    ((unpackWord s.params (nextWord s)).rst = true ∧ t = State.resetOf s.params s.script.tail)
      ∨ ((unpackWord s.params (nextWord s)).rst = false
          ∧ t = coreStep (unpackWord s.params (nextWord s)) (consumeWord s)) := by
  by_cases hfits : nextWord s < 2 ^ s.params.wordBits
  · rw [step_eq_clockEdge hfits, clockEdge, atEdge_eq_next] at h
    obtain ⟨-, hreset | ⟨hrst, -, -, ht⟩⟩ := h
    · exact .inl hreset
    · exact .inr ⟨hrst, ht⟩
  · simp [step, decodeWord, hfits] at h

/-! ### The marks of a step under way: which phase takes a snapshot, which ends a transaction in success -/

@[simp] theorem registryWrite_snap (io : Input) (s : State) (w : Work) : (registryWrite io s w).snap = w.snap := by
  unfold registryWrite; repeat' split
  all_goals rfl

@[simp] theorem registryWrite_succ (io : Input) (s : State) (w : Work) : (registryWrite io s w).succ = w.succ := by
  unfold registryWrite; repeat' split
  all_goals rfl

@[simp] theorem registryRead_snap (io : Input) (s : State) (w : Work) : (registryRead io s w).snap = w.snap := by
  simp only [registryRead]; split <;> rfl

@[simp] theorem registryRead_succ (io : Input) (s : State) (w : Work) : (registryRead io s w).succ = w.succ := by
  simp only [registryRead]; split <;> rfl

@[simp] theorem strayCompletion_snap (io : Input) (s : State) (w : Work) : (strayCompletion io s w).snap = w.snap := by
  unfold strayCompletion; split <;> rfl

@[simp] theorem strayCompletion_succ (io : Input) (s : State) (w : Work) : (strayCompletion io s w).succ = w.succ := by
  unfold strayCompletion; split <;> rfl

@[simp] theorem pendIfExpired_snap (s : State) (w : Work) : (pendIfExpired s w).snap = w.snap := by
  rw [pendIfExpired_eq]

@[simp] theorem pendIfExpired_succ (s : State) (w : Work) : (pendIfExpired s w).succ = w.succ := by
  rw [pendIfExpired_eq]

@[simp] theorem leaveXmit_snap (io : Input) (s : State) (w : Work) : (leaveXmit io s w).snap = w.snap := by
  unfold leaveXmit; split <;> rfl

@[simp] theorem leaveXmit_succ (io : Input) (s : State) (w : Work) : (leaveXmit io s w).succ = w.succ := by
  unfold leaveXmit; split <;> rfl

/-- A completion ends the transaction in flight in success (R174). -/
def successTaken (io : Input) (s : State) : Bool := completionTaken io s && io.txDone && io.txOk

theorem successTaken_iff (io : Input) (s : State) :
    successTaken io s = true ↔ s.st = .xmit ∧ io.blankFault = false ∧ io.txDone = true ∧ io.txOk = true := by
  simp [successTaken, completionTaken, and_assoc]

theorem fsmPhase_of_successTaken {io : Input} {s : State} (h : successTaken io s = true) (w : Work) :
    fsmPhase io s w = txDoneOkRule io s w := by
  simp only [successTaken, Bool.and_eq_true] at h
  obtain ⟨⟨htaken, hdone⟩, hok⟩ := h
  simp [fsmPhase_of_completionTaken htaken hdone, hok]

section
variable {io : Input} {s : State}

/-- What the FSM rule of a step marks: a snapshot (R172), a transaction that ends in success (R174). -/
structure FsmMarks (io : Input) (s : State) (w w' : Work) : Prop where
  snap : w'.snap = (w.snap || snapshotSendSelected io s)
  succ : w'.succ = (w.succ || successTaken io s)

/-- The FSM rules that mark neither. -/
theorem FsmMarks.of_keeps {w w' : Work} (hsel : snapshotSendSelected io s = false) (htaken : successTaken io s = false)
    (hsnap : w'.snap = w.snap) (hsucc : w'.succ = w.succ) : FsmMarks io s w w' :=
  ⟨by simp [hsel, hsnap], by simp [htaken, hsucc]⟩

theorem snapshotSendRule_marks (hsel : snapshotSendSelected io s = true) (w : Work) :
    FsmMarks io s w (snapshotSendRule io s w) := by
  have htaken : successTaken io s = false := by
    simp [successTaken, completionTaken, ((snapshotSendSelected_iff io s).1 hsel).1]
  constructor <;> simp [snapshotSendRule, hsel, htaken]

theorem txDoneOkRule_marks (htaken : successTaken io s = true) (w : Work) :
    FsmMarks io s w (txDoneOkRule io s w) := by
  have hsel : snapshotSendSelected io s = false := by
    simp [snapshotSendSelected, ((successTaken_iff io s).1 htaken).1]
  constructor <;> simp [txDoneOkRule, hsel, htaken]

/-- The branches of the FSM phase but the two that mark keep both marks. -/
theorem fsmPhase_keeps_marks (hsel : snapshotSendSelected io s = false) (htaken : successTaken io s = false) (w : Work) :
    (fsmPhase io s w).snap = w.snap ∧ (fsmPhase io s w).succ = w.succ := by
  cases hs : s.st
  case init =>
    rw [fsmPhase_of_init hs, initCheckRule]
    split <;> exact ⟨rfl, rfl⟩
  case idle =>
    rw [fsmPhase_of_idle hs, idleRule]
    split_ifs <;> exact ⟨rfl, rfl⟩
  case pulse =>
    rw [fsmPhase_of_pulse hs, pulseRule]
    split_ifs with hfault hcount hstop hdirty
    · exact ⟨rfl, rfl⟩
    · simp [pulseHoldRule]
    · simp [pulseStopRule, enterStopped_eq]
    · simp [snapshotSendSelected, hs, hfault, Nat.eq_zero_of_not_pos hcount, hstop, hdirty] at hsel
    · simp [pulseEndCleanRule]
  case xmit =>
    rw [fsmPhase_of_xmit hs, xmitRule]
    split_ifs with hfault hdone hok
    · exact ⟨rfl, rfl⟩
    · simp [successTaken, completionTaken, hs, hfault, hdone, hok] at htaken
    · simp [txDoneFailRule]
    · simp
  case stopped | halted | cfgfail | reserved7 =>
    rw [fsmPhase_of_gsclkEn_false (by simp [hs]) (by simp [State.gsclkEn, hs])]
    exact ⟨rfl, rfl⟩

/-- The FSM phase marks a snapshot where SNAPSHOT_SEND is selected, and a success where one ends the transaction. -/
theorem fsmPhase_marks (io : Input) (s : State) (w : Work) : FsmMarks io s w (fsmPhase io s w) := by
  by_cases hsel : snapshotSendSelected io s = true
  · exact fsmPhase_of_snapshotSendSelected hsel w ▸ snapshotSendRule_marks hsel w
  by_cases htaken : successTaken io s = true
  · exact fsmPhase_of_successTaken htaken w ▸ txDoneOkRule_marks htaken w
  rw [Bool.not_eq_true] at hsel htaken
  obtain ⟨hsnap, hsucc⟩ := fsmPhase_keeps_marks hsel htaken w
  exact .of_keeps hsel htaken hsnap hsucc

end

/-! ### What the step writes of `wsnap`, `dirty` and the registers -/

/-- R35: a snapshot clears the bit, and a write accepted in the same step sets it all the same. -/
@[simp] theorem coreStep_wsnap (io : Input) (s : State) :
    (coreStep io s).wsnap = (writeAccepted io s || (s.wsnap && !snapshotSendSelected io s)) := by
  simp only [coreStep, stepWith, reportPhase_wsnap, stopPhase, dirtyPhase, strayCompletion_snap,
    (fsmPhase_marks ..).snap]
  cases snapshotSendSelected io s <;> cases writeAccepted io s <;> simp [timerPhase_eq, startWork]

/-- R34, R174: a success leaves the device dirty where a register was written since the snapshot or is written now. -/
@[simp] theorem coreStep_dirty (io : Input) (s : State) :
    (coreStep io s).dirty = (writeAccepted io s || if successTaken io s then s.wsnap else s.dirty) := by
  simp only [coreStep, stepWith, reportPhase_dirty, stopPhase, dirtyPhase, strayCompletion_succ,
    (fsmPhase_marks ..).succ]
  cases successTaken io s <;> cases writeAccepted io s <;> simp [timerPhase_eq, startWork]

theorem registryWrite_gs_of_not_accepted {io : Input} {s : State} (h : writeAccepted io s = false) (w : Work) :
    (registryWrite io s w).next.gs = w.next.gs := by
  unfold registryWrite
  split_ifs with hacc hid
  · simp [writeAccepted, hacc, hid] at h
  · simp
  · rfl

/-- R111: without an accepted write the registers hold. -/
theorem coreStep_gs_of_not_accepted {io : Input} {s : State} (h : writeAccepted io s = false) :
    (coreStep io s).gs = s.gs := by
  simp [coreStep, stepWith, dirtyPhase, stopPhase, timerPhase_eq, startWork, registryWrite_gs_of_not_accepted h]

/-- R172: a snapshot starts the transaction. -/
theorem coreStep_request_of_snapshotSendSelected {io : Input} {s : State} (h : snapshotSendSelected io s = true) :
    (coreStep io s).st = .xmit ∧ (coreStep io s).txReq = true := by
  simp [coreStep, stepWith, dirtyPhase, stopPhase, fsmPhase_of_snapshotSendSelected h, snapshotSendRule]

/-! ### No accepted write is lost (R73) -/

/-- A clean device has the encoding of its registers in the framebuffer. -/
theorem frame_of_clean {s : State} (h : NothingLost s) (hclean : s.dirty = false) :
    s.fb = encodeFrame s.gs :=
  h.frame_current (Bool.eq_false_iff.2 fun hw => by simp [h.marked hw] at hclean)

/-- R250: the all-zero frame encodes the all-zero registers, and the bit is clear. -/
theorem nothingLost_resetOf (p : Params) (script : List Nat) : NothingLost (State.resetOf p script) where
  frame_current _ := by
    have hzero : Vector.replicate 24 0 = encodeFrame (Vector.replicate 16 0) := by decide
    exact hzero
  marked h := by simp at h

section
variable {io : Input} {s : State}

/-- The step of R200 keeps the invariant: with the bit clear after the step no write was accepted in it, so the frame is the
old one, which was current, or a snapshot of registers that did not change. -/
theorem coreStep_nothingLost (h : NothingLost s) : NothingLost (coreStep io s) where
  frame_current hw := by
    rw [coreStep_wsnap, Bool.or_eq_false_iff] at hw
    obtain ⟨hnowrite, hclear⟩ := hw
    rw [coreStep_gs_of_not_accepted hnowrite, coreStep_fb]
    split
    case isTrue => rfl
    case isFalse hsel =>
      have hwsnap : s.wsnap = false := by simpa [hsel] using hclear
      exact h.frame_current hwsnap
  marked hw := by
    rw [coreStep_wsnap, Bool.or_eq_true, Bool.and_eq_true] at hw
    rw [coreStep_dirty]
    obtain hwrite | ⟨hset, -⟩ := hw
    · simp [hwrite]
    · simp [hset, h.marked hset]

/-- R111: an accepted write marks the device, whatever the FSM does in the step. -/
theorem coreStep_marks_of_writeAccepted (h : writeAccepted io s = true) :
    (coreStep io s).dirty = true ∧ (coreStep io s).wsnap = true := by simp [h]

/-- R174: `dirty` falls only in a success with nothing written since the snapshot. -/
theorem coreStep_dirty_falls (hs : s.dirty = true) (ht : (coreStep io s).dirty = false) :
    successTaken io s = true ∧ s.wsnap = false ∧ writeAccepted io s = false := by
  rw [coreStep_dirty, Bool.or_eq_false_iff] at ht
  obtain ⟨hnowrite, hkept⟩ := ht
  split at hkept
  case isTrue htaken => exact ⟨htaken, hkept, hnowrite⟩
  case isFalse => simp [hs] at hkept

/-- The frame in flight where `dirty` falls is the one transmitted and encodes the registers after the step. -/
theorem coreStep_frame_of_success (htaken : successTaken io s = true) (hwsnap : s.wsnap = false)
    (hnowrite : writeAccepted io s = false) (h : NothingLost s) :
    s.fb = encodeFrame (coreStep io s).gs ∧ (coreStep io s).fb = s.fb := by
  have hsel : snapshotSendSelected io s = false := by
    simp [snapshotSendSelected, ((successTaken_iff io s).1 htaken).1]
  rw [coreStep_gs_of_not_accepted hnowrite, coreStep_fb, hsel]
  exact ⟨h.frame_current hwsnap, rfl⟩

/-- R172: `wsnap` falls only at a snapshot. -/
theorem coreStep_wsnap_falls (hs : s.wsnap = true) (ht : (coreStep io s).wsnap = false) :
    snapshotSendSelected io s = true := by
  rw [coreStep_wsnap, hs, Bool.true_and, Bool.or_eq_false_iff, Bool.not_eq_false'] at ht
  exact ht.2

/-- R172: a snapshot takes the registers before the step, raises the request and leaves the device dirty. -/
theorem coreStep_of_snapshotSendSelected (h : snapshotSendSelected io s = true) :
    s.st = .pulse ∧ s.pcnt = 0 ∧ s.dirty = true ∧ (coreStep io s).st = .xmit ∧ (coreStep io s).txReq = true
      ∧ (coreStep io s).dirty = true ∧ (coreStep io s).fb = encodeFrame s.gs := by
  obtain ⟨hst, hcount, hdirty, -, -⟩ := (snapshotSendSelected_iff io s).1 h
  obtain ⟨hxmit, hreq⟩ := coreStep_request_of_snapshotSendSelected h
  have htaken : successTaken io s = false := by simp [successTaken, completionTaken, hst]
  exact ⟨hst, hcount, hdirty, hxmit, hreq, by simp [htaken, hdirty], by simp [h]⟩

end

/-- Taking the word out of the script concerns neither the registers nor the frame. -/
theorem nothingLost_consumeWord {s : State} (h : NothingLost s) : NothingLost (consumeWord s) :=
  ⟨h.frame_current, h.marked⟩

/-- Settles O47: a step is a reset, after which nothing is lost and `dirty` is set, or the step of R200, whose closed forms of
`wsnap` and `dirty` say when each falls. -/
theorem noAcceptedWriteIsLost : Obligations.NoAcceptedWriteIsLost := by
  intro s t h io
  have hcases : (io.rst = true ∧ t = State.resetOf s.params s.script.tail)
      ∨ (io.rst = false ∧ t = coreStep io (consumeWord s)) := step_next_cases h
  clear_value io
  have keeps : ∀ {u : State}, NothingLost u → NothingLost u ∧ (u.dirty = false → u.fb = encodeFrame u.gs) :=
    fun hu => ⟨hu, frame_of_clean hu⟩
  obtain ⟨hrst, rfl⟩ | ⟨hrst, rfl⟩ := hcases
  case inl =>
    refine ⟨fun _ => keeps (nothingLost_resetOf ..), fun hno => ?_, fun _ hfalls => ?_, fun _ _ => .inl hrst⟩
    · simp [hrst] at hno
    · simp at hfalls
  case inr =>
    refine ⟨fun hs => keeps (coreStep_nothingLost (nothingLost_consumeWord hs)),
      fun _ hw => coreStep_marks_of_writeAccepted (s := consumeWord s) hw, fun hs ht => ?dirty, fun hs ht => ?wsnap⟩
    case dirty =>
      obtain ⟨htaken, hwsnap, hnowrite⟩ := coreStep_dirty_falls (s := consumeWord s) hs ht
      obtain ⟨hst, hfault, hdone, hok⟩ := (successTaken_iff ..).1 htaken
      refine ⟨⟨hst, hrst, hdone, hok, hfault, hwsnap, hnowrite⟩, fun hlost => ?_⟩
      exact coreStep_frame_of_success (s := consumeWord s) htaken hwsnap hnowrite (nothingLost_consumeWord hlost)
    case wsnap =>
      have hsel := coreStep_wsnap_falls (s := consumeWord s) hs ht
      exact .inr (coreStep_of_snapshotSendSelected (s := consumeWord s) hsel)

end Sys2Proof.Proofs
end

section
/-! PROOFS. The input word (30_encoding.md): the decoder and the encoder are inverse on the words of R82, an operation's word
has the bits its row of R84 asks for, a step fetches one word (R88), the bits no rule reads make no difference (R86), and
`wr_val` is read by its sign (R83). -/

namespace Sys2Proof.Proofs

open Sys2Proof.Machine Sys2Proof.Laws

/-! ### The operation that names a step (R84) -/

/-- Whatever row names the step, the operation carries the sampled ports. -/
@[simp] theorem operationOf_ports (io : Input) : (operationOf io).ports = some io := by
  cases io
  fun_cases operationOf <;> simp_all [Instr.ports]

/-- The decoder answers only rows that input bits select. -/
@[simp] theorem operationOf_external (io : Input) : (operationOf io).external = true := by
  fun_cases operationOf <;> rfl

/-- The decoder's row is the first one of R84 that the ports select. -/
@[simp] theorem operationOf_selecting (io : Input) : (operationOf io).selecting = true := by
  fun_cases operationOf <;> simp_all [Instr.selecting]

/-- Every operation that input bits select is the one that names its own ports. -/
theorem exists_operationOf_eq {i : Instr} (hext : i.external = true) (hsel : i.selecting = true) :
    ∃ io, operationOf io = i := by
  cases i
  case encode | decode | initCheck | timerExpire | tickAccept | pulseHold | pulseEndClean | snapshotSend => cases hext
  case reset io | setBrightness io | readChannel io | stopReq io | txDoneOk io | txDoneFail io | blankFault io | nop io =>
    exact ⟨io, by simp_all [operationOf, Instr.selecting]⟩

/-- No row's selecting bits lie in an operand. -/
theorem operandsFit_of_ports {i : Instr} {io : Input} (hi : i.ports = some io) (p : Params) :
    i.operandsFit p = io.fits p := by
  cases i <;> cases hi <;> rfl

@[simp] theorem operationOf_wf (p : Params) (io : Input) : (operationOf io).wf p = io.fits p := by
  simp [Instr.wf, operandsFit_of_ports (operationOf_ports io)]

@[simp] theorem encodeWord_operationOf (p : Params) (io : Input) :
    encodeWord p (operationOf io) = some (packWord p io) := by
  simp [encodeWord]

/-! ### The layout of the word (R82)

A word is its low byte followed by `wr_id`, `rd_id` and `wr_val`, each in its own width. -/

/-- The eight request and status bits of the ports, as R82 places them. -/
def selectorByte (io : Input) : Nat :=
  lowByte io.rst io.wrEn io.rdEn io.stopReq io.txDone io.txOk io.blankFault io.resOk

theorem selectorByte_lt (io : Input) : selectorByte io < 2 ^ 8 := by
  have lowByte_lt : ∀ a b c d e f g h, lowByte a b c d e f g h < 2 ^ 8 := by decide
  exact lowByte_lt ..

/-- R82's table as one number in mixed radix. -/
theorem packWord_eq (p : Params) (io : Input) :
    packWord p io = selectorByte io + 2 ^ 8 * (io.wrId + 2 ^ p.idWidth * (io.rdId + 2 ^ p.idWidth * io.wrVal)) := by
  simp only [packWord, selectorByte, lowByte, pow_add, two_mul]
  ring

/-- The eight lowest bits of a word spell its low byte. -/
theorem selectorByte_unpackWord (p : Params) (w : Nat) : selectorByte (unpackWord p w) = w % 2 ^ 8 := by
  simp only [selectorByte, unpackWord, lowByte, Nat.toNat_testBit]
  omega

theorem fits_iff (p : Params) (io : Input) :
    io.fits p = true ↔ io.wrId < 2 ^ p.idWidth ∧ io.rdId < 2 ^ p.idWidth ∧ io.wrVal < 2 ^ p.inWidth := by
  simp [Input.fits, and_assoc]

theorem unpackWord_fits (p : Params) (w : Nat) : (unpackWord p w).fits p = true :=
  (fits_iff ..).2 ⟨Nat.mod_lt _ (Nat.two_pow_pos _), Nat.mod_lt _ (Nat.two_pow_pos _), Nat.mod_lt _ (Nat.two_pow_pos _)⟩

/-- A digit below its radix and a rest below its bound stay below the product. -/
theorem add_two_pow_mul_lt {x y n m : Nat} (hx : x < 2 ^ n) (hy : y < 2 ^ m) : x + 2 ^ n * y < 2 ^ (n + m) := by
  rw [Nat.add_comm, Nat.add_comm n m, pow_add]
  exact Nat.mul_add_lt_mul_of_lt_of_lt hy hx

/-- Ports that fit give a word of R82's width. -/
theorem packWord_lt {p : Params} {io : Input} (h : io.fits p = true) : packWord p io < 2 ^ p.wordBits := by
  obtain ⟨hwr, hrd, hval⟩ := (fits_iff ..).1 h
  have hbits : p.wordBits = 8 + (p.idWidth + (p.idWidth + p.inWidth)) := by rw [Params.wordBits]; omega
  rw [packWord_eq, hbits]
  exact add_two_pow_mul_lt (selectorByte_lt io) (add_two_pow_mul_lt hwr (add_two_pow_mul_lt hrd hval))

/-- Below the radix, the lowest digit and the rest are read back. -/
theorem digit_of_add_two_pow_mul {x n : Nat} (hx : x < 2 ^ n) (y : Nat) :
    (x + 2 ^ n * y) % 2 ^ n = x ∧ (x + 2 ^ n * y) / 2 ^ n = y :=
  ⟨by rw [Nat.add_mul_mod_self_left, Nat.mod_eq_of_lt hx],
    by rw [Nat.add_mul_div_left _ _ (Nat.two_pow_pos n), Nat.div_eq_of_lt hx, Nat.zero_add]⟩

/-- Each operand is read back from its place above the low byte. -/
theorem operands_packWord {p : Params} {io : Input} (h : io.fits p = true) :
    let w := packWord p io
    w / 2 ^ 8 % 2 ^ p.idWidth = io.wrId ∧ w / 2 ^ (8 + p.idWidth) % 2 ^ p.idWidth = io.rdId
      ∧ w / 2 ^ (8 + 2 * p.idWidth) % 2 ^ p.inWidth = io.wrVal := by
  obtain ⟨hwr, hrd, hval⟩ := (fits_iff ..).1 h
  obtain ⟨-, hrest⟩ := digit_of_add_two_pow_mul (selectorByte_lt io)
    (io.wrId + 2 ^ p.idWidth * (io.rdId + 2 ^ p.idWidth * io.wrVal))
  obtain ⟨hwrId, hrest'⟩ := digit_of_add_two_pow_mul hwr (io.rdId + 2 ^ p.idWidth * io.wrVal)
  obtain ⟨hrdId, hwrVal⟩ := digit_of_add_two_pow_mul hrd io.wrVal
  simp only [packWord_eq, pow_add, two_mul, ← Nat.div_div_eq_div_mul, hrest, hwrId, hrest', hrdId, hwrVal,
    Nat.mod_eq_of_lt hval, and_self]

/-- The low byte is read back bit by bit. -/
theorem testBit_lowByte (a b c d e f g h : Bool) :
    let n := lowByte a b c d e f g h
    n.testBit 0 = a ∧ n.testBit 1 = b ∧ n.testBit 2 = c ∧ n.testBit 3 = d ∧ n.testBit 4 = e ∧ n.testBit 5 = f
      ∧ n.testBit 6 = g ∧ n.testBit 7 = h := by
  revert a b c d e f g h
  decide

/-- The operands lie above the request and status bits, which are read back from the word's low byte. -/
theorem testBit_packWord (p : Params) (io : Input) :
    let w := packWord p io
    w.testBit 0 = io.rst ∧ w.testBit 1 = io.wrEn ∧ w.testBit 2 = io.rdEn ∧ w.testBit 3 = io.stopReq
      ∧ w.testBit 4 = io.txDone ∧ w.testBit 5 = io.txOk ∧ w.testBit 6 = io.blankFault ∧ w.testBit 7 = io.resOk := by
  have hlow : ∀ k < 8, (packWord p io % 256).testBit k = (packWord p io).testBit k := fun k hk =>
    (Nat.testBit_mod_two_pow _ 8 k).trans (by simp [hk])
  have hbits := testBit_lowByte io.rst io.wrEn io.rdEn io.stopReq io.txDone io.txOk io.blankFault io.resOk
  rw [← packWord_low_byte p io] at hbits
  simpa only [hlow, Nat.reduceLT] using hbits

/-- Unpacking a packed word gives the ports back. -/
theorem unpackWord_packWord {p : Params} {io : Input} (h : io.fits p = true) : unpackWord p (packWord p io) = io := by
  obtain ⟨hrst, hwrEn, hrdEn, hstop, hdone, hok, hfault, hres⟩ := testBit_packWord p io
  obtain ⟨hwrId, hrdId, hwrVal⟩ := operands_packWord h
  simp only [unpackWord, hrst, hwrEn, hrdEn, hstop, hdone, hok, hfault, hres, hwrId, hrdId, hwrVal]

/-- Packing the ports of a word of R82's width gives the word back. -/
theorem packWord_unpackWord {p : Params} {w : Nat} (h : w < 2 ^ p.wordBits) : packWord p (unpackWord p w) = w := by
  have hval : w / 2 ^ 8 / 2 ^ p.idWidth / 2 ^ p.idWidth < 2 ^ p.inWidth := by
    simp only [Nat.div_div_eq_div_mul, ← pow_add]
    refine Nat.div_lt_of_lt_mul ?_
    rw [← pow_add]
    convert h using 2
    rw [Params.wordBits]; omega
  rw [packWord_eq, selectorByte_unpackWord]
  simp only [unpackWord, pow_add, two_mul, ← Nat.div_div_eq_div_mul, Nat.mod_eq_of_lt hval, Nat.mod_add_div]

/-! ### The decoder and the encoder -/

/-- The decoder's one condition is the length of the word (R82, R86). -/
theorem decodeWord_eq_ok_iff (p : Params) (w : Nat) (i : Instr) :
    decodeWord p w = .ok i ↔ w < 2 ^ p.wordBits ∧ operationOf (unpackWord p w) = i := by
  by_cases h : w < 2 ^ p.wordBits <;> simp [decodeWord, h]

/-- Settles O2: an operation that input bits select names its own ports, and its ports are read back from their word. -/
theorem decodeOfEncodeIsTheOperation : Obligations.DecodeOfEncodeIsTheOperation := by
  intro p i hext hwf
  obtain ⟨io, rfl⟩ := exists_operationOf_eq hext (Bool.and_eq_true_iff.1 hwf).2
  have hfits : io.fits p = true := (operationOf_wf p io).symm.trans hwf
  refine ⟨packWord p io, encodeWord_operationOf p io, packWord_lt hfits, ?_⟩
  exact (decodeWord_eq_ok_iff ..).2 ⟨packWord_lt hfits, by rw [unpackWord_packWord hfits]⟩

/-- What the decoder answers is an operation that input bits select, well formed, with that word. -/
theorem decodeWord_spec {p : Params} {w : Nat} {i : Instr} (h : decodeWord p w = .ok i) :
    i.external = true ∧ i.wf p = true ∧ encodeWord p i = some w := by
  obtain ⟨hw, rfl⟩ := (decodeWord_eq_ok_iff ..).1 h
  refine ⟨operationOf_external _, ?_, ?_⟩
  · rw [operationOf_wf, unpackWord_fits]
  · rw [encodeWord_operationOf, packWord_unpackWord hw]

/-- Settles O3: below the width nothing is rejected, and packing keeps every bit. -/
theorem encodeOfDecodeIsTheWord : Obligations.EncodeOfDecodeIsTheWord := by
  intro p w hw
  have hdec : decodeWord p w = .ok (operationOf (unpackWord p w)) := (decodeWord_eq_ok_iff ..).2 ⟨hw, rfl⟩
  exact ⟨_, hdec, decodeWord_spec hdec⟩

/-! ### The rows of the operation map (R84) -/

/-- Every operation's word has the bits of the operation's row, where it has one. -/
theorem rowBits (i : Instr) : RowBits.Statement i := by
  cases i with
  | reset io => exact RowBits.reset io
  | setBrightness io => exact RowBits.setBrightness io
  | readChannel io => exact RowBits.readChannel io
  | stopReq io => exact RowBits.stopReq io
  | txDoneOk io => exact RowBits.txDoneOk io
  | txDoneFail io => exact RowBits.txDoneFail io
  | blankFault io => exact RowBits.blankFault io
  | initCheck io => exact RowBits.initCheck io
  | nop io => exact RowBits.nop io
  | timerExpire io => exact RowBits.timerExpire io
  | tickAccept io => exact RowBits.tickAccept io
  | pulseHold io => exact RowBits.pulseHold io
  | pulseEndClean io => exact RowBits.pulseEndClean io
  | snapshotSend io => exact RowBits.snapshotSend io
  | encode g => exact RowBits.encode g
  | decode f => exact RowBits.decode f

theorem mem_selectedRows_iff (m : String) (w : Nat) :
    m ∈ selectedRows w ↔ ∃ r ∈ operationMap, MapRow.holds r w ∧ r.mnemonic = m := by
  simp [selectedRows, MapRow.holds, and_assoc]

/-- An operation that input bits select has a row of its own. -/
theorem exists_row_of_external {i : Instr} (h : i.external = true) : ∃ r ∈ operationMap, r.mnemonic = i.mnemonic := by
  cases i <;> cases h <;> simp [operationMap, Instr.mnemonic]

/-- Settles O4: the word is the word of the operation read from it, and so has the bits of the operation's row. -/
theorem decodedOperationIsSelectedByItsRow : Obligations.DecodedOperationIsSelectedByItsRow := by
  intro p w i h
  obtain ⟨hext, -, hword⟩ := decodeWord_spec h
  obtain ⟨r, hr, hname⟩ := exists_row_of_external hext
  exact (mem_selectedRows_iff ..).2 ⟨r, hr, rowBits i p w hword r hr hname, hname⟩

/-- Settles O1, by running the decoder on each word. -/
theorem writtenWordsDecodeToTheirOperations : Obligations.WrittenWordsDecodeToTheirOperations := by
  refine ⟨?reset, ?write, ?read, ?stop, ?done, ?fail, ?linkFault, ?nop, ?writeAndRead⟩ <;> decide

/-! ### The fetch (R88) -/

/-- Settles O5: the decoder answers an error for a number above the width, and the step passes it on. -/
theorem tooWideWordIsRefused : Obligations.TooWideWordIsRefused := by
  intro s h
  have hdec : decodeWord s.params (nextWord s) = .error .wordTooWide := if_neg (Nat.not_lt.2 h)
  simp [step, hdec]

/-- Settles O6: the step is the clock edge with the word's ports, and so is the decoded operation, whatever rule body the
state selects for it. -/
theorem stepRunsTheDecodedOperation : Obligations.StepRunsTheDecodedOperation := by
  intro s i h
  obtain ⟨hw, rfl⟩ := (decodeWord_eq_ok_iff ..).1 h
  calc step s = clockEdge (unpackWord s.params (nextWord s)) (consumeWord s) := step_eq_clockEdge hw
    _ = exec (operationOf (unpackWord s.params (nextWord s))) (consumeWord s) :=
      (exec_eq_clockEdge (operationOf_ports _) _).symm

/-! ### The ports no rule reads (R86, I11) -/

/-- The ports agree wherever a rule reads them at the state `s`. -/
structure AgreeWhereRead (a b : Input) (s : State) : Prop where
  rst : a.rst = b.rst
  wrEn : a.wrEn = b.wrEn
  rdEn : a.rdEn = b.rdEn
  stopReq : a.stopReq = b.stopReq
  txDone : a.txDone = b.txDone
  blankFault : a.blankFault = b.blankFault
  txOk : a.txDone = true → a.txOk = b.txOk
  resOk : s.st = .init → a.resOk = b.resOk
  write : a.wrEn = true → a.wrId = b.wrId ∧ a.wrVal = b.wrVal
  read : a.rdEn = true → a.rdId = b.rdId

namespace AgreeWhereRead

variable {a b : Input} {s : State}

theorem writeAccepted_eq (h : AgreeWhereRead a b s) : writeAccepted a s = writeAccepted b s := by
  cases hen : a.wrEn
  · simp [writeAccepted, ← h.wrEn, hen]
  · simp [writeAccepted, ← h.wrEn, (h.write hen).1]

theorem stopRequested_eq (h : AgreeWhereRead a b s) : stopRequested a s = stopRequested b s := by
  simp [stopRequested, h.stopReq]

theorem registryWrite_eq (h : AgreeWhereRead a b s) (w : Work) : registryWrite a s w = registryWrite b s w := by
  cases hen : a.wrEn
  · simp [registryWrite, ← h.wrEn, hen]
  · obtain ⟨hid, hval⟩ := h.write hen
    simp [registryWrite, ← h.wrEn, hid, hval]

theorem registryRead_eq (h : AgreeWhereRead a b s) (w : Work) : registryRead a s w = registryRead b s w := by
  cases hen : a.rdEn
  · simp [registryRead, readPort, ← h.rdEn, hen]
  · simp [registryRead, readPort, ← h.rdEn, ← h.rst, h.read hen]

theorem initCheckRule_eq (h : AgreeWhereRead a b s) (hs : s.st = .init) (w : Work) :
    initCheckRule a s w = initCheckRule b s w := by
  simp [initCheckRule, h.resOk hs, h.blankFault]

theorem idleRule_eq (h : AgreeWhereRead a b s) (w : Work) : idleRule a s w = idleRule b s w := by
  simp [idleRule, tickAcceptRule, h.blankFault, h.stopRequested_eq]

theorem pulseRule_eq (h : AgreeWhereRead a b s) (w : Work) : pulseRule a s w = pulseRule b s w := by
  simp [pulseRule, pulseHoldRule, pulseStopRule, snapshotSendRule, pulseEndCleanRule, h.blankFault, h.stopRequested_eq]

theorem xmitRule_eq (h : AgreeWhereRead a b s) (w : Work) : xmitRule a s w = xmitRule b s w := by
  cases hdone : a.txDone
  · simp [xmitRule, ← h.txDone, hdone, h.blankFault]
  · simp [xmitRule, txDoneOkRule, txDoneFailRule, leaveXmit, ← h.txDone, h.txOk hdone, h.blankFault, h.stopRequested_eq]

theorem fsmPhase_eq (h : AgreeWhereRead a b s) (w : Work) : fsmPhase a s w = fsmPhase b s w := by
  cases hs : s.st with
  | init => simp only [fsmPhase_of_init hs, h.initCheckRule_eq hs]
  | idle => simp only [fsmPhase_of_idle hs, h.idleRule_eq]
  | pulse => simp only [fsmPhase_of_pulse hs, h.pulseRule_eq]
  | xmit => simp only [fsmPhase_of_xmit hs, h.xmitRule_eq]
  | stopped | halted | cfgfail | reserved7 => simp [fsmPhase, hs]

theorem strayCompletion_eq (h : AgreeWhereRead a b s) (w : Work) : strayCompletion a s w = strayCompletion b s w := by
  simp [strayCompletion, h.txDone]

theorem dirtyPhase_eq (h : AgreeWhereRead a b s) (w : Work) : dirtyPhase a s w = dirtyPhase b s w := by
  simp [dirtyPhase, h.writeAccepted_eq]

theorem stopPhase_eq (h : AgreeWhereRead a b s) (w : Work) : stopPhase a s w = stopPhase b s w := by
  simp [stopPhase, h.stopReq]

/-- Phase by phase, the whole step is the same. -/
theorem coreStep_eq (h : AgreeWhereRead a b s) : coreStep a s = coreStep b s := by
  simp only [coreStep, stepWith, timerPhase_eq, h.registryWrite_eq, h.registryRead_eq, h.fsmPhase_eq,
    h.strayCompletion_eq, h.dirtyPhase_eq, h.stopPhase_eq]

theorem clockEdge_eq (h : AgreeWhereRead a b s) : clockEdge a s = clockEdge b s := by
  simp only [clockEdge, atEdge, h.rst, h.coreStep_eq]

end AgreeWhereRead

/-- Settles O11: its hypotheses are the agreement of the ports wherever a phase of the step reads them. -/
theorem unusedPortsMakeNoDifference : Obligations.UnusedPortsMakeNoDifference :=
  fun _ _ _ hrst hwrEn hrdEn hstop hdone hfault hok hres hwrite hread =>
    AgreeWhereRead.clockEdge_eq ⟨hrst, hwrEn, hrdEn, hstop, hdone, hfault, hok, hres, hwrite, hread⟩

/-! ### The value on `wr_val` (R83) -/

/-- Settles O22: two's complement subtracts the modulus exactly where the top bit is set. -/
theorem writeValueIsReadByItsSign : Obligations.WriteValueIsReadByItsSign := by
  intro p raw h
  have hraw : (BitVec.ofNat p.inWidth raw).toNat = raw := by rw [BitVec.toNat_ofNat, Nat.mod_eq_of_lt h]
  cases hsigned : p.inSigned
  case false => simp [inputValue, hsigned, hraw]
  case true =>
    simp only [inputValue, hsigned, if_true, true_and, BitVec.toInt_eq_toNat_cond, hraw]
    by_cases htop : 2 * raw < 2 ^ p.inWidth
    · simp [htop, Nat.not_le.2 htop]
    · simp [htop, Nat.not_lt.1 htop]

end Sys2Proof.Proofs
end

section
/-! PROOFS. The channel registry (40_registry.md): how a value is scaled and clamped (R110, R115), what a step's accesses
write, show and report beside its scheduler (R111, R112, R211, R214), and when a register changes (R114). -/

namespace Sys2Proof.Proofs

open Sys2Proof.Machine

/-! ### Scaling and clamping (R110, R115) -/

theorem scaled_of_left_shift {p : Params} {k : Nat} (h : p.scaleShift = k) (v : Int) : scaled p v = v * 2 ^ k := by
  simp [scaled, h]

/-- A right shift is the division that rounds toward minus infinity. -/
theorem scaled_of_right_shift {p : Params} {k : Nat} (h : p.scaleShift = -(k : Int)) (v : Int) :
    scaled p v = v / 2 ^ k := by
  have hpow : (0 : Int) ≤ 2 ^ k := by positivity
  obtain rfl | hk := Nat.eq_zero_or_pos k
  · simp [scaled, h]
  · have hneg : ¬ 0 ≤ p.scaleShift := by omega
    rw [scaled, if_neg hneg, h, neg_neg, Int.toNat_natCast, Int.fdiv_eq_ediv_of_nonneg _ hpow]

/-- Settles O21: the left shift is a product, the right shift a quotient rounded down, which lies in its half-open step. -/
theorem scalingIsAnExactShift : Obligations.ScalingIsAnExactShift := by
  intro p v k
  have hpow : (0 : Int) < 2 ^ k := by positivity
  refine ⟨fun h => scaled_of_left_shift h v, fun h => ?_⟩
  rw [scaled_of_right_shift h]
  exact ⟨Int.ediv_mul_le v hpow.ne', Int.lt_ediv_add_one_mul_self v hpow⟩

theorem scaled_mono (p : Params) {v v' : Int} (h : v ≤ v') : scaled p v ≤ scaled p v' := by
  obtain ⟨k, hleft | hright⟩ := Int.eq_nat_or_neg p.scaleShift
  · have hpow : (0 : Int) ≤ 2 ^ k := by positivity
    rw [scaled_of_left_shift hleft, scaled_of_left_shift hleft]
    exact Int.mul_le_mul_of_nonneg_right h hpow
  · have hpow : (0 : Int) < 2 ^ k := by positivity
    rw [scaled_of_right_shift hright, scaled_of_right_shift hright]
    exact Int.ediv_le_ediv hpow h

/-- R110: ScaleClamp is the scaled value, clamped into [0, 4095]. -/
theorem toNat_scaleClamp (p : Params) (v : Int) :
    ((scaleClamp p v).toNat : Int) = max 0 (min 4095 (scaled p v)) := by
  unfold scaleClamp
  split_ifs with hneg hbig
  · rw [max_eq_left (by omega)]; rfl
  · rw [min_eq_left (by omega)]; rfl
  · rw [BitVec.toNat_ofInt]; omega

/-! ### The accesses of a step, apart from its scheduler (R201) -/

/-- The step under way after its accesses alone (R111, R112). -/
def accessWork (io : Input) (s : State) : Work := registryRead io s (registryWrite io s (startWork s))

/-- The step under way after its timer and FSM rules and a stray completion, without its accesses (R161, R160, R177). -/
def schedulerWork (io : Input) (s : State) : Work :=
  let w := timerPhase io s (startWork s)
  strayCompletion io s (fsmPhase io s { w with next := { w.next with txFail := false } })

/-- What the accesses `a` of a step write and raise, put beside the rest `w` of it. -/
def withAccesses (w a : Work) : Work :=
  { w with
    next := { w.next with gs := a.next.gs, rdData := a.next.rdData, errInv := a.next.errInv }
    events := w.events ++ a.events }

/-- The accesses touch nothing but what `withAccesses` takes from them. -/
theorem accessWork_eq (io : Input) (s : State) : accessWork io s = withAccesses (startWork s) (accessWork io s) := by
  simp only [accessWork, registryRead, registryWrite]
  split_ifs <;> rfl

theorem timerPhase_withAccesses (io : Input) (s : State) (w a : Work) :
    timerPhase io s (withAccesses w a) = withAccesses (timerPhase io s w) a := by
  simp only [timerPhase_eq]; rfl

/-- R201: no FSM rule reads or writes what an access writes. -/
theorem fsmPhase_withAccesses (io : Input) (s : State) (w a : Work) :
    fsmPhase io s (withAccesses w a) = withAccesses (fsmPhase io s w) a := by
  cases hs : s.st
  case init =>
    simp only [fsmPhase_of_init hs, initCheckRule]
    split_ifs <;> rfl
  case idle =>
    simp only [fsmPhase_of_idle hs, idleRule]
    split_ifs <;> rfl
  case pulse =>
    simp only [fsmPhase_of_pulse hs, pulseRule, pulseHoldRule, pulseStopRule, snapshotSendRule, pulseEndCleanRule,
      pendIfExpired_eq]
    split_ifs <;> rfl
  case xmit =>
    simp only [fsmPhase_of_xmit hs, xmitRule, txDoneOkRule, txDoneFailRule, leaveXmit, pendIfExpired_eq]
    split_ifs <;> rfl
  case stopped | halted | cfgfail | reserved7 => simp [fsmPhase, hs]

theorem strayCompletion_withAccesses (io : Input) (s : State) (w a : Work) :
    strayCompletion io s (withAccesses w a) = withAccesses (strayCompletion io s w) a := by
  unfold strayCompletion
  split <;> rfl

/-- The step of R200 is its accesses beside its scheduler, closed by the last three phases. -/
theorem coreStep_eq_phases (io : Input) (s : State) :
    coreStep io s
      = (reportPhase (stopPhase io s (dirtyPhase io s (withAccesses (schedulerWork io s) (accessWork io s))))).next := by
  have hstart : registryRead io s (registryWrite io s (startWork s)) = withAccesses (startWork s) (accessWork io s) :=
    accessWork_eq io s
  rw [schedulerWork, ← strayCompletion_withAccesses, ← fsmPhase_withAccesses, coreStep, stepWith, hstart,
    timerPhase_withAccesses]
  rfl

/-! ### The report of a step (R211, R214) -/

/-- The causes that the FSM rules raise, by R211's conditions. -/
def fsmCauses (io : Input) (s : State) : List Cause :=
  (if s.st = .init ∧ (io.resOk = false ∨ io.blankFault = true) then [.configurationError] else [])
    ++ (if s.st.Running ∧ io.blankFault = true then [.hardwareLinkError] else [])
    ++ (if s.st = .xmit ∧ io.txDone = true ∧ io.txOk = false ∧ io.blankFault = false then [.transportError] else [])

/-- The causes that a step raises beside its accesses, in R214's order. -/
def schedulerCauses (io : Input) (s : State) : List Cause :=
  fsmCauses io s ++ (if strayDone io s = true then [.protocolViolation] else [])

theorem causesOf_eq (io : Input) (s : State) :
    causesOf io s = schedulerCauses io s ++ (if invalidAccess io s = true then [.invalidChannel] else []) := rfl

theorem fsmPhase_events (io : Input) (s : State) (w : Work) :
    (fsmPhase io s w).events = fsmCauses io s ++ w.events := by
  cases hs : s.st
  case init =>
    simp only [fsmPhase_of_init hs, initCheckRule]
    cases hres : io.resOk <;> cases hfault : io.blankFault <;> simp [fsmCauses, hs, hres, hfault]
  case idle =>
    simp only [fsmPhase_of_idle hs, idleRule]
    split_ifs with hfault <;> simp [fsmCauses, FsmState.Running, hs, hfault, enterStopped, tickAcceptRule]
  case pulse =>
    simp only [fsmPhase_of_pulse hs, pulseRule, pulseHoldRule, pulseStopRule, snapshotSendRule, pulseEndCleanRule,
      pendIfExpired_eq]
    split_ifs with hfault <;> simp [fsmCauses, FsmState.Running, hs, hfault, enterStopped]
  case xmit =>
    simp only [fsmPhase_of_xmit hs, xmitRule, txDoneOkRule, txDoneFailRule, leaveXmit, pendIfExpired_eq]
    split_ifs with hfault hdone hok <;> simp_all [fsmCauses, FsmState.Running, enterStopped]
  case stopped | halted | cfgfail | reserved7 => simp [fsmPhase, fsmCauses, hs]

/-- R177: a stray completion is raised by PROTOCOL_VIOLATION's condition of R211. -/
theorem strayCompletion_eq_ite (io : Input) (s : State) (w : Work) :
    strayCompletion io s w = if strayDone io s then raise .protocolViolation w else w := by
  cases hs : s.st <;> simp [strayCompletion, strayDone, hs]

theorem strayCompletion_events (io : Input) (s : State) (w : Work) :
    (strayCompletion io s w).events = (if strayDone io s = true then [.protocolViolation] else []) ++ w.events := by
  rw [strayCompletion_eq_ite]
  split <;> rfl

theorem registryWrite_events (io : Input) (s : State) (w : Work) :
    (registryWrite io s w).events
      = (if s.ready = true ∧ io.wrEn = true ∧ 16 ≤ io.wrId then [.invalidChannel] else []) ++ w.events := by
  unfold registryWrite
  split_ifs <;> simp_all
  omega

theorem registryRead_events (io : Input) (s : State) (w : Work) :
    (registryRead io s w).events
      = (if s.ready = true ∧ io.rdEn = true ∧ 16 ≤ io.rdId then [.invalidChannel] else []) ++ w.events := by
  simp only [registryRead]
  split_ifs <;> simp_all

/-- R211: an access raises INVALID_CHANNEL and nothing else. -/
theorem mem_accessWork_events (io : Input) (s : State) (c : Cause) :
    c ∈ (accessWork io s).events ↔ c = .invalidChannel ∧ invalidAccess io s = true := by
  simp only [accessWork, registryRead_events, registryWrite_events, startWork, invalidAccess, List.append_nil,
    List.mem_append, List.mem_ite_nil_right, List.mem_singleton, Bool.and_eq_true, Bool.or_eq_true, decide_eq_true_eq]
  tauto

/-- A step's events are the causes of R211's conditions. -/
theorem mem_step_events (io : Input) (s : State) (c : Cause) :
    c ∈ (withAccesses (schedulerWork io s) (accessWork io s)).events ↔ c ∈ causesOf io s := by
  have hscheduler : (schedulerWork io s).events
      = (if strayDone io s = true then [.protocolViolation] else []) ++ fsmCauses io s := by
    simp [schedulerWork, strayCompletion_events, fsmPhase_events, timerPhase_eq, startWork]
  simp only [withAccesses, hscheduler, causesOf_eq, schedulerCauses, List.mem_append, mem_accessWork_events]
  simp only [List.mem_ite_nil_right, List.mem_singleton]
  tauto

/-- R214: of causes listed in the order of priority, the first is reported. -/
theorem highestCause_of_sublist {l : List Cause} (h : l.Sublist causePriority) : highestCause l = l.head? := by
  have hsub : ∀ l ∈ causePriority.sublists, highestCause l = l.head? := by decide
  exact hsub l (List.mem_sublists.2 h)

theorem causesOf_sublist (io : Input) (s : State) : (causesOf io s).Sublist causePriority := by
  have hsub : ∀ (P : Prop) [Decidable P] (c : Cause), (if P then [c] else []).Sublist [c] := by
    intro P _ c; split <;> simp
  exact ((((hsub _ _).append (hsub _ _)).append (hsub _ _)).append (hsub _ _)).append (hsub _ _)

/-- R214: the order in which a step raises its causes makes no difference. -/
theorem highestCause_congr {l l' : List Cause} (h : ∀ c, c ∈ l ↔ c ∈ l') : highestCause l = highestCause l' := by
  simp [highestCause, List.contains_eq_mem, h]

theorem reportPhase_next (w : Work) :
    (reportPhase w).next = { w.next with lastErr := (highestCause w.events).elim w.next.lastErr .raised } := by
  unfold reportPhase
  cases highestCause w.events <;> rfl

/-- R214: `last_err` after the step. -/
@[simp] theorem coreStep_lastErr (io : Input) (s : State) : (coreStep io s).lastErr = errAfter io s := by
  have hhighest : highestCause (withAccesses (schedulerWork io s) (accessWork io s)).events = (causesOf io s).head? :=
    (highestCause_congr (mem_step_events io s)).trans (highestCause_of_sublist (causesOf_sublist io s))
  have hkept : (schedulerWork io s).next.lastErr = s.lastErr := by simp [schedulerWork, timerPhase_eq, startWork]
  rw [coreStep_eq_phases, reportPhase_next]
  simp only [stopPhase, dirtyPhase, hhighest]
  unfold errAfter
  cases causesOf io s with
  | nil => exact hkept
  | cons c _ => rfl

/-! ### The registers and the read port after a step (R111, R112) -/

/-- The register file after the write of a step (R111). -/
def writtenChannels (io : Input) (s : State) : Channels :=
  if h : io.wrId < 16 then
    if writeAccepted io s then s.gs.set io.wrId (scaleClamp s.params (inputValue s.params io.wrVal)) h else s.gs
  else s.gs

@[simp] theorem coreStep_gs (io : Input) (s : State) : (coreStep io s).gs = writtenChannels io s := by
  have hwrite : (registryWrite io s (startWork s)).next.gs = writtenChannels io s := by
    simp only [registryWrite, writtenChannels, writeAccepted, startWork]
    split_ifs <;> simp_all
  simp [coreStep, stepWith, dirtyPhase, stopPhase, timerPhase_eq, hwrite]

@[simp] theorem registryRead_rdData (io : Input) (s : State) (w : Work) :
    (registryRead io s w).next.rdData = readPort io s := by
  simp only [registryRead]
  split <;> simp

@[simp] theorem coreStep_rdData (io : Input) (s : State) : (coreStep io s).rdData = readPort io s := by
  simp [coreStep, stepWith, dirtyPhase, stopPhase, timerPhase_eq]

/-! ### Two steps that differ in their accesses alone -/

/-- The ports of a step without its accesses: what the scheduler sees of them. -/
def schedulerPorts (io : Input) : Input := { io with wrEn := false, rdEn := false, wrId := 0, rdId := 0, wrVal := 0 }

theorem schedulerWork_schedulerPorts (io : Input) (s : State) :
    schedulerWork (schedulerPorts io) s = schedulerWork io s := rfl

theorem schedulerCauses_schedulerPorts (io : Input) (s : State) :
    schedulerCauses (schedulerPorts io) s = schedulerCauses io s := rfl

theorem writeAccepted_schedulerPorts (io : Input) (s : State) : writeAccepted (schedulerPorts io) s = false := rfl

/-- R200, R201: a step is the same step without its accesses, and beside it what the accesses write and report. -/
theorem coreStep_eq_of_accesses (io : Input) (s : State) :
    let u := coreStep (schedulerPorts io) s
    coreStep io s =
      { u with
        gs := writtenChannels io s
        rdData := readPort io s
        errInv := s.errInv || invalidAccess io s
        wsnap := writeAccepted io s || u.wsnap
        dirty := writeAccepted io s || u.dirty
        lastErr := errAfter io s } := by
  intro u
  have hwsnap : (coreStep io s).wsnap = (writeAccepted io s || u.wsnap) := by
    simp only [u, coreStep_wsnap, writeAccepted_schedulerPorts, Bool.false_or]; rfl
  have hdirty : (coreStep io s).dirty = (writeAccepted io s || u.dirty) := by
    simp only [u, coreStep_dirty, writeAccepted_schedulerPorts, Bool.false_or]; rfl
  rw [← coreStep_gs, ← coreStep_rdData, ← coreStep_errInv, ← hwsnap, ← hdirty, ← coreStep_lastErr]
  simp only [u, coreStep_eq_phases, reportPhase_next, schedulerWork_schedulerPorts]
  rfl

section
variable {a b : Input} {s : State}

theorem schedulerCauses_congr (h : schedulerPorts a = schedulerPorts b) : schedulerCauses a s = schedulerCauses b s := by
  rw [← schedulerCauses_schedulerPorts, h, schedulerCauses_schedulerPorts]

theorem errAfter_congr (h : schedulerPorts a = schedulerPorts b) (hinvalid : invalidAccess a s = invalidAccess b s) :
    errAfter a s = errAfter b s := by
  simp only [errAfter, causesOf_eq, schedulerCauses_congr h, hinvalid]

/-- R214: INVALID_CHANNEL has the lowest priority, so it is reported where the step raises no other cause. -/
theorem errAfter_of_invalidAccess (h : schedulerPorts a = schedulerPorts b) (hinvalid : invalidAccess a s = true) :
    errAfter a s = if causesOf b s = [] then .raised .invalidChannel else errAfter b s := by
  have ha : causesOf a s = schedulerCauses b s ++ [.invalidChannel] := by
    simp [causesOf_eq, hinvalid, schedulerCauses_congr h]
  cases hothers : schedulerCauses b s with
  | nil => cases hb : invalidAccess b s <;> simp [errAfter, ha, causesOf_eq b, hothers, hb]
  | cons c cs => simp [errAfter, ha, causesOf_eq b, hothers]

/-- The accesses of `a` do to the registers and show on the port what those of `b` do; only their reports may differ. -/
structure SameAccessEffect (a b : Input) (s : State) : Prop where
  ports : schedulerPorts a = schedulerPorts b
  accepted : writeAccepted a s = writeAccepted b s
  channels : writtenChannels a s = writtenChannels b s
  read : readPort a s = readPort b s

theorem SameAccessEffect.coreStep_eq (h : SameAccessEffect a b s) (hinvalid : invalidAccess a s = invalidAccess b s) :
    coreStep a s = coreStep b s := by
  rw [coreStep_eq_of_accesses a, coreStep_eq_of_accesses b, h.ports, h.accepted, h.channels, h.read, hinvalid,
    errAfter_congr h.ports hinvalid]

/-- R211: an invalid access adds its report to the step. -/
theorem SameAccessEffect.coreStep_of_invalid (h : SameAccessEffect a b s) (hinvalid : invalidAccess a s = true) :
    coreStep a s =
      { coreStep b s with
        errInv := true
        lastErr := if causesOf b s = [] then .raised .invalidChannel else (coreStep b s).lastErr } := by
  rw [coreStep_lastErr, ← errAfter_of_invalidAccess h.ports hinvalid, coreStep_eq_of_accesses a,
    coreStep_eq_of_accesses b, h.ports, h.accepted, h.channels, h.read, hinvalid, Bool.or_true]

/-- R111: an accepted write adds its value and its two marks to the step without it. -/
theorem coreStep_of_write (hports : schedulerPorts a = schedulerPorts b) (hid : a.wrId < 16)
    (ha : writeAccepted a s = true) (hread : readPort a s = readPort b s)
    (hinvalid : invalidAccess a s = invalidAccess b s) :
    coreStep a s =
      { coreStep b s with
        gs := s.gs.set a.wrId (scaleClamp s.params (inputValue s.params a.wrVal)) hid
        dirty := true
        wsnap := true } := by
  have hgs : writtenChannels a s = s.gs.set a.wrId (scaleClamp s.params (inputValue s.params a.wrVal)) hid := by
    rw [writtenChannels, dif_pos hid, if_pos ha]
  rw [coreStep_eq_of_accesses a, coreStep_eq_of_accesses b, hports, ha, hgs, hread, hinvalid,
    errAfter_congr hports hinvalid]
  rfl

/-- R112: a read shows its register beside the step without it. -/
theorem coreStep_of_read (hports : schedulerPorts a = schedulerPorts b) (haccepted : writeAccepted a s = writeAccepted b s)
    (hchannels : writtenChannels a s = writtenChannels b s) (hinvalid : invalidAccess a s = invalidAccess b s) :
    coreStep a s = { coreStep b s with rdData := readPort a s } := by
  rw [coreStep_eq_of_accesses a, coreStep_eq_of_accesses b, hports, haccepted, hchannels, hinvalid,
    errAfter_congr hports hinvalid]

end

/-- R200: from an operational state a step without `rst` has a next state. -/
theorem clockEdge_of_operational {io : Input} {s : State} (h : Operational s) (hr : io.rst = false) :
    clockEdge io s = .next (coreStep io s) :=
  atEdge_next io s _ h.params hr h.fsm h.err

/-! ### The accesses of a step, by their ids -/

theorem writeAccepted_iff (io : Input) (s : State) :
    writeAccepted io s = true ↔ io.wrEn = true ∧ s.ready = true ∧ io.wrId < 16 := by
  simp [writeAccepted, and_assoc]

theorem writtenChannels_of_not_accepted {io : Input} {s : State} (h : writeAccepted io s = false) :
    writtenChannels io s = s.gs := by
  simp [writtenChannels, h]

/-- R111: each register after the write of a step. -/
theorem getElem_writtenChannels (io : Input) (s : State) (c : Nat) (h : c < 16) :
    (writtenChannels io s)[c] =
      if writeAccepted io s = true ∧ io.wrId = c then scaleClamp s.params (inputValue s.params io.wrVal) else s.gs[c] := by
  cases hacc : writeAccepted io s
  case false => simp [writtenChannels_of_not_accepted hacc]
  case true =>
    obtain ⟨-, -, hid⟩ := (writeAccepted_iff io s).1 hacc
    simp [writtenChannels, hid, hacc, Vector.getElem_set]

theorem readPort_of_valid {io : Input} {s : State} (hrst : io.rst = false) (hen : io.rdEn = true) (hready : s.ready = true)
    (hid : io.rdId < 16) : readPort io s = s.gs[io.rdId] := by
  simp [readPort, hrst, hen, hready, hid]

theorem invalidAccess_of_wrId_lt {io : Input} {s : State} (h : io.wrId < 16) :
    invalidAccess io s = (s.ready && (io.rdEn && decide (16 ≤ io.rdId))) := by
  simp [invalidAccess, Nat.not_le.2 h]

theorem invalidAccess_of_rdId_lt {io : Input} {s : State} (h : io.rdId < 16) :
    invalidAccess io s = (s.ready && (io.wrEn && decide (16 ≤ io.wrId))) := by
  simp [invalidAccess, Nat.not_le.2 h]

/-- R111, R112: while not `ready` accesses are ignored. -/
theorem coreStep_of_not_ready {a b : Input} {s : State} (hports : schedulerPorts a = schedulerPorts b)
    (hready : s.ready = false) : coreStep a s = coreStep b s := by
  have hnone : ∀ io, writeAccepted io s = false := fun io => by simp [writeAccepted, hready]
  have hsame : SameAccessEffect a b s :=
    { ports := hports
      accepted := by rw [hnone, hnone]
      channels := by rw [writtenChannels_of_not_accepted (hnone a), writtenChannels_of_not_accepted (hnone b)]
      read := by simp [readPort, hready] }
  exact hsame.coreStep_eq (by simp [invalidAccess, hready])

/-! ### SET_BRIGHTNESS and READ_CHANNEL (R111, R112) -/

/-- The ports of a step without `rst`, with the write requested or not. -/
def writePorts (io : Input) (en : Bool) : Input := { io with rst := false, wrEn := en }

/-- The ports of a step without `rst`, with the read requested or not. -/
def readPorts (io : Input) (en : Bool) : Input := { io with rst := false, rdEn := en }

/-- Settles O17: the two steps have one scheduler, and what the write adds beside it is fixed by `ready` and the id. -/
theorem setBrightnessWritesOneChannel : Obligations.SetBrightnessWritesOneChannel := by
  intro io s hs
  have hports : schedulerPorts (writePorts io true) = schedulerPorts (writePorts io false) := rfl
  have hnone : writeAccepted (writePorts io false) s = false := rfl
  have hkept : writtenChannels (writePorts io false) s = s.gs := writtenChannels_of_not_accepted hnone
  refine ⟨coreStep (writePorts io false) s, clockEdge_of_operational hs rfl, by rw [coreStep_gs, hkept], ?_⟩
  have hexec : exec (.setBrightness io) s = .next (coreStep (writePorts io true) s) := clockEdge_of_operational hs rfl
  rw [hexec]
  by_cases hready : s.ready = true
  case neg => rw [if_neg hready, coreStep_of_not_ready hports (Bool.eq_false_iff.2 hready)]
  rw [if_pos hready]
  by_cases hid : io.wrId < 16
  case pos =>
    have hacc : writeAccepted (writePorts io true) s = true := (writeAccepted_iff ..).2 ⟨rfl, hready, hid⟩
    have hvalid : invalidAccess (writePorts io true) s = invalidAccess (writePorts io false) s :=
      (invalidAccess_of_wrId_lt (io := writePorts io true) hid).trans
        (invalidAccess_of_wrId_lt (io := writePorts io false) hid).symm
    rw [dif_pos hid, coreStep_of_write hports hid hacc rfl hvalid]
    rfl
  case neg =>
    have hrefused : writeAccepted (writePorts io true) s = false := by simp [writeAccepted, writePorts, hid]
    have hsame : SameAccessEffect (writePorts io true) (writePorts io false) s :=
      { ports := hports
        accepted := hrefused
        channels := (writtenChannels_of_not_accepted hrefused).trans hkept.symm
        read := rfl }
    have hinvalid : invalidAccess (writePorts io true) s = true := by
      simp [invalidAccess, writePorts, hready, Nat.le_of_not_lt hid]
    rw [dif_neg hid, hsame.coreStep_of_invalid hinvalid]
    rfl

/-- Settles O18: the two steps have one scheduler and one write, which the port does not see. -/
theorem readChannelShowsTheOldValue : Obligations.ReadChannelShowsTheOldValue := by
  intro io s hs
  have hports : schedulerPorts (readPorts io true) = schedulerPorts (readPorts io false) := rfl
  have hzero : readPort (readPorts io false) s = 0 := rfl
  refine ⟨coreStep (readPorts io false) s, clockEdge_of_operational hs rfl, by rw [coreStep_rdData, hzero], ?_⟩
  have hexec : exec (.readChannel io) s = .next (coreStep (readPorts io true) s) := clockEdge_of_operational hs rfl
  rw [hexec]
  by_cases hready : s.ready = true
  case neg => rw [if_neg hready, coreStep_of_not_ready hports (Bool.eq_false_iff.2 hready)]
  rw [if_pos hready]
  by_cases hid : io.rdId < 16
  case pos =>
    have hshown : readPort (readPorts io true) s = s.gs[io.rdId] :=
      readPort_of_valid (io := readPorts io true) rfl rfl hready hid
    have hvalid : invalidAccess (readPorts io true) s = invalidAccess (readPorts io false) s :=
      (invalidAccess_of_rdId_lt (io := readPorts io true) hid).trans
        (invalidAccess_of_rdId_lt (io := readPorts io false) hid).symm
    rw [dif_pos hid, coreStep_of_read hports rfl rfl hvalid, hshown]
  case neg =>
    have hsame : SameAccessEffect (readPorts io true) (readPorts io false) s :=
      { ports := hports
        accepted := rfl
        channels := rfl
        read := by simp [readPort, readPorts, hid] }
    have hinvalid : invalidAccess (readPorts io true) s = true := by
      simp [invalidAccess, readPorts, hready, Nat.le_of_not_lt hid]
    rw [dif_neg hid, hsame.coreStep_of_invalid hinvalid]
    rfl

/-- Settles O19: of the three things an operation can lead to, a recorded result keeps the registers, and the step of R200
writes the one register of an accepted write. -/
theorem channelsChangeOnlyByAcceptedWrites : Obligations.ChannelsChangeOnlyByAcceptedWrites := by
  intro i s t c h hexec hne
  obtain ⟨io, hi, hr, -⟩ | ⟨io, hi, -, rfl⟩ | ⟨-, enc, dec, rfl⟩ := exec_next_cases hexec
  case inl => exact ⟨io, hi, .inl hr⟩
  case inr.inl =>
    have hwritten : writeAccepted io s = true ∧ io.wrId = c := by
      by_contra hno
      exact hne (by rw [coreStep_gs, getElem_writtenChannels, if_neg hno])
    obtain ⟨hacc, hid⟩ := hwritten
    obtain ⟨hen, hready, -⟩ := (writeAccepted_iff io s).1 hacc
    exact ⟨io, hi, .inr ⟨hen, hready, hid⟩⟩
  case inr.inr => exact absurd rfl hne

/-! ### Values out of range (R115) -/

/-- R111: an accepted SET_BRIGHTNESS stores ScaleClamp of its value. -/
theorem setBrightness_stores {io : Input} {s : State} (h : io.wrId < 16) (hs : Operational s) (hready : s.ready = true) :
    ∃ t, exec (.setBrightness io) s = .next t ∧ t.gs[io.wrId] = scaleClamp s.params (inputValue s.params io.wrVal) := by
  have hacc : writeAccepted (writePorts io true) s = true := (writeAccepted_iff ..).2 ⟨rfl, hready, h⟩
  refine ⟨coreStep (writePorts io true) s, clockEdge_of_operational hs rfl, ?_⟩
  rw [coreStep_gs, getElem_writtenChannels, if_pos ⟨hacc, rfl⟩]
  rfl

/-- Settles O20: clamping is a maximum of a minimum of the scaled value, which is monotone. -/
theorem scaleClampIsMonotoneAndNearest : Obligations.ScaleClampIsMonotoneAndNearest := by
  intro p v
  have hclamp := toNat_scaleClamp p v
  refine ⟨by omega, by omega, by omega, by omega, fun v' hle => ?mono, fun io s h hs hready => ?stored⟩
  case mono =>
    have hclamp' := toNat_scaleClamp p v'
    have hscaled := scaled_mono p hle
    omega
  case stored =>
    obtain ⟨t, hexec, hgs⟩ := setBrightness_stores h hs hready
    refine ⟨t, hexec, fun hneg => ?_, fun hbig => ?_⟩
    · rw [hgs, scaleClamp, if_pos hneg]
    · rw [hgs, scaleClamp, if_neg (by omega), if_pos hbig]

end Sys2Proof.Proofs
end

section
/-! PROOFS. The frame encoder (41_encoder.md): the bytes of each triple (R140), the channels of each triple and the two
laws of the inverse (R146), and the frame as the concatenation of the channels (R141). -/

namespace Sys2Proof.Proofs

open Sys2Proof.Machine

/-! ### Every triple (R140, R146)

The model finds the triple and the place in it by dividing an index by 3 or 2; the equations `hdiv` and `hmod` do that
division. -/

/-- R140: byte `f[3k]` is wholly channel `2k`. -/
theorem encodeFrame_firstByte (g : Channels) (k : Nat) (h : k < 8) :
    (encodeFrame g)[3 * k] = (g[2 * k]).extractLsb' 4 8 := by
  have hdiv : 3 * k / 3 = k := by omega
  have hmod : 3 * k % 3 = 0 := by omega
  simp [encodeFrame, frameByte, hdiv, hmod]

/-- R140: byte `f[3k+1]` is shared by the two channels of the triple. -/
theorem encodeFrame_sharedByte (g : Channels) (k : Nat) (h : k < 8) :
    (encodeFrame g)[3 * k + 1] = (g[2 * k]).extractLsb' 0 4 ++ (g[2 * k + 1]).extractLsb' 8 4 := by
  have hdiv : (3 * k + 1) / 3 = k := by omega
  have hmod : (3 * k + 1) % 3 = 1 := by omega
  simp [encodeFrame, frameByte, hdiv, hmod]

/-- R140: byte `f[3k+2]` is wholly channel `2k+1`. -/
theorem encodeFrame_lastByte (g : Channels) (k : Nat) (h : k < 8) :
    (encodeFrame g)[3 * k + 2] = (g[2 * k + 1]).extractLsb' 0 8 := by
  have hdiv : (3 * k + 2) / 3 = k := by omega
  have hmod : (3 * k + 2) % 3 = 2 := by omega
  simp [encodeFrame, frameByte, hdiv, hmod]

/-- R146: the even channel of a triple. -/
theorem decodeFrame_evenChannel (f : Frame) (k : Nat) (h : k < 8) :
    (decodeFrame f)[2 * k] = f[3 * k] ++ (f[3 * k + 1]).extractLsb' 4 4 := by
  have hdiv : 2 * k / 2 = k := by omega
  have hmod : 2 * k % 2 = 0 := by omega
  simp [decodeFrame, frameChannel, hdiv, hmod]

/-- R146: the odd channel of a triple. -/
theorem decodeFrame_oddChannel (f : Frame) (k : Nat) (h : k < 8) :
    (decodeFrame f)[2 * k + 1] = (f[3 * k + 1]).extractLsb' 0 4 ++ f[3 * k + 2] := by
  have hdiv : (2 * k + 1) / 2 = k := by omega
  have hmod : (2 * k + 1) % 2 = 1 := by omega
  simp [decodeFrame, frameChannel, hdiv, hmod]

/-- Settles O23: the recorded result is `Encode(g)`, read triple by triple. -/
theorem encodePacksEachTriple : Obligations.EncodePacksEachTriple := fun g _ =>
  ⟨encodeFrame g, rfl, fun k h =>
    ⟨encodeFrame_firstByte g k h, encodeFrame_sharedByte g k h, encodeFrame_lastByte g k h⟩⟩

/-- Settles O24: the recorded result is `Decode(f)`, read triple by triple. -/
theorem decodeUnpacksEachTriple : Obligations.DecodeUnpacksEachTriple := fun f _ =>
  ⟨decodeFrame f, rfl, fun k h => ⟨decodeFrame_evenChannel f k h, decodeFrame_oddChannel f k h⟩⟩

/-! ### The two laws (R146) -/

/-- Two register files with the same pair of channels in every triple are the same. -/
theorem channels_ext_pairs {g g' : Channels}
    (h : ∀ (k : Nat) (_ : k < 8), g[2 * k] = g'[2 * k] ∧ g[2 * k + 1] = g'[2 * k + 1]) : g = g' := by
  ext1 c hc
  obtain ⟨k, hk, hplace⟩ : ∃ k < 8, c = 2 * k ∨ c = 2 * k + 1 := ⟨c / 2, by omega⟩
  obtain ⟨heven, hodd⟩ := h k hk
  obtain rfl | rfl := hplace
  · exact heven
  · exact hodd

/-- Two frames with the same three bytes in every triple are the same. -/
theorem frame_ext_triples {f f' : Frame}
    (h : ∀ (k : Nat) (_ : k < 8),
      f[3 * k] = f'[3 * k] ∧ f[3 * k + 1] = f'[3 * k + 1] ∧ f[3 * k + 2] = f'[3 * k + 2]) : f = f' := by
  ext1 j hj
  obtain ⟨k, hk, hplace⟩ : ∃ k < 8, j = 3 * k ∨ j = 3 * k + 1 ∨ j = 3 * k + 2 := ⟨j / 3, by omega⟩
  obtain ⟨hfirst, hshared, hlast⟩ := h k hk
  obtain rfl | rfl | rfl := hplace
  · exact hfirst
  · exact hshared
  · exact hlast

/-- R146's first law: the shared byte gives back the nibble that each channel put into it. -/
theorem decodeFrame_encodeFrame (g : Channels) : decodeFrame (encodeFrame g) = g := by
  refine channels_ext_pairs fun k h => ⟨?even, ?odd⟩
  case even =>
    rw [decodeFrame_evenChannel _ k h, encodeFrame_firstByte g k h, encodeFrame_sharedByte g k h,
      BitVec.extractLsb'_append_eq_left]
    exact BitVec.extractLsb'_append_extractLsb'
  case odd =>
    rw [decodeFrame_oddChannel _ k h, encodeFrame_sharedByte g k h, encodeFrame_lastByte g k h,
      BitVec.extractLsb'_append_eq_right]
    exact BitVec.extractLsb'_append_extractLsb'

/-- R146's second law: the two nibbles of the shared byte come back from the two channels that hold them. -/
theorem encodeFrame_decodeFrame (f : Frame) : encodeFrame (decodeFrame f) = f := by
  refine frame_ext_triples fun k h => ⟨?first, ?shared, ?last⟩
  case first =>
    rw [encodeFrame_firstByte _ k h, decodeFrame_evenChannel f k h]
    exact BitVec.extractLsb'_append_eq_left
  case shared =>
    rw [encodeFrame_sharedByte _ k h, decodeFrame_evenChannel f k h, decodeFrame_oddChannel f k h,
      BitVec.extractLsb'_append_eq_right, BitVec.extractLsb'_append_eq_left]
    exact BitVec.extractLsb'_append_extractLsb'
  case last =>
    rw [encodeFrame_lastByte _ k h, decodeFrame_oddChannel f k h]
    exact BitVec.extractLsb'_append_eq_right

/-- Settles O25: the two laws make Decode a two-sided inverse; the uniform frames are two evaluations. -/
theorem encodeAndDecodeAreInverse : Obligations.EncodeAndDecodeAreInverse :=
  ⟨fun f k h => ⟨decodeFrame_evenChannel f k h, decodeFrame_oddChannel f k h⟩,
    decodeFrame_encodeFrame, encodeFrame_decodeFrame,
    Function.bijective_iff_has_inverse.2 ⟨decodeFrame, decodeFrame_encodeFrame, encodeFrame_decodeFrame⟩,
    by decide, by decide⟩

/-! ### The 192-bit frame (R141)

Bytes and channels meet at the 24-bit slices: slice `k` is the triple's three bytes on one side and its two channels on
the other. -/

/-- R141: channel `c` of the concatenation, counted from the most significant end. Without the channels after it, it is
the last one (channel 0 the only one). -/
theorem channelBits_channel (g : Channels) (c : Nat) (h : c < 16) :
    (channelBits g).extractLsb' (180 - 12 * c) 12 = g[c] := by
  rw [channelBits]
  obtain rfl | hpos := Nat.eq_zero_or_pos c
  · iterate 15 rw [BitVec.extractLsb'_append_eq_of_le (by decide)]
    exact BitVec.extractLsb'_eq_self
  interval_cases c
  all_goals
    repeat rw [BitVec.extractLsb'_append_eq_of_le (by decide)]
    exact BitVec.extractLsb'_append_eq_right

/-- The 24-bit slice of triple `k` is the two channels of the triple. -/
theorem channelBits_pair (g : Channels) (k : Nat) (h : k < 8) :
    (channelBits g).extractLsb' (168 - 24 * k) 24 = g[2 * k] ++ g[2 * k + 1] := by
  rw [← channelBits_channel g (2 * k), ← channelBits_channel g (2 * k + 1),
    BitVec.extractLsb'_append_extractLsb'_eq_extractLsb' (by omega)]
  congr 1
  omega

/-- The 24-bit slice of triple `k` is the three bytes of the triple. -/
theorem frameBits_triple (f : Frame) (k : Nat) (h : k < 8) :
    (frameBits f).extractLsb' (168 - 24 * k) 24 = f[3 * k] ++ f[3 * k + 1] ++ f[3 * k + 2] := by
  rw [← frameBits_byte f (3 * k), ← frameBits_byte f (3 * k + 1), ← frameBits_byte f (3 * k + 2),
    BitVec.extractLsb'_append_extractLsb'_eq_extractLsb' (by omega),
    BitVec.extractLsb'_append_extractLsb'_eq_extractLsb' (by omega)]
  congr 1
  omega

/-- A byte, two nibbles and a byte: the nibbles as a byte of their own, or each with the byte beside it. -/
theorem append_nibbles_regroup (x : Byte) (u v : BitVec 4) (z : Byte) : x ++ (u ++ v) ++ z = x ++ u ++ (v ++ z) := by
  calc x ++ (u ++ v) ++ z
      = x ++ u ++ v ++ z := congrArg (· ++ z) BitVec.append_assoc.symm
    _ = x ++ u ++ (v ++ z) := BitVec.append_assoc

/-- The three bytes that R140 packs from two channels are the two channels side by side. -/
theorem packed_triple (a b : Gray) :
    a.extractLsb' 4 8 ++ (a.extractLsb' 0 4 ++ b.extractLsb' 8 4) ++ b.extractLsb' 0 8 = a ++ b := by
  have ha : a.extractLsb' 4 8 ++ a.extractLsb' 0 4 = a := BitVec.extractLsb'_append_extractLsb'
  have hb : b.extractLsb' 8 4 ++ b.extractLsb' 0 8 = b := BitVec.extractLsb'_append_extractLsb'
  rw [append_nibbles_regroup, ha, hb]

/-- A 192-bit word is known by its eight 24-bit slices. -/
theorem word_ext_slices {x y : BitVec 192}
    (h : ∀ k < 8, x.extractLsb' (168 - 24 * k) 24 = y.extractLsb' (168 - 24 * k) 24) : x = y := by
  refine BitVec.eq_of_getLsbD_eq fun i hi => ?_
  have hslice := congrArg (·.getLsbD (i % 24)) (h (7 - i / 24) (by omega))
  have hplace : 168 - 24 * (7 - i / 24) + i % 24 = i := by omega
  simpa [BitVec.getLsbD_extractLsb', Nat.mod_lt, hplace] using hslice

/-- R141's first form: triple by triple, the three bytes are the two channels. -/
theorem frameBits_encodeFrame (g : Channels) : frameBits (encodeFrame g) = channelBits g := by
  refine word_ext_slices fun k h => ?_
  rw [frameBits_triple _ k h, encodeFrame_firstByte g k h, encodeFrame_sharedByte g k h, encodeFrame_lastByte g k h,
    packed_triple, channelBits_pair g k h]

/-- Settles O26: the channels are read off the concatenation, the bytes off the frame. -/
theorem frameIsTheConcatenationOfTheChannels : Obligations.FrameIsTheConcatenationOfTheChannels := by
  refine fun g => ⟨frameBits_encodeFrame g, fun c h => ?channel, frameBits_byte (encodeFrame g)⟩
  case channel => rw [frameBits_encodeFrame, channelBits_channel g c h]

end Sys2Proof.Proofs
end

section
/-! PROOFS. The scheduler (42_scheduler.md), one step: its part of the state after a step in closed form, FSM state by FSM
state (R160 to R182), and with it what each operation of the scheduler does. -/

namespace Sys2Proof.Proofs

open Sys2Proof.Machine

/-! ### The scheduler's part after a step, in closed form -/

/-- The step under way when its FSM rule begins, without its accesses: the timer has counted and a `tx_fail` pulse has
ended (R161, R43). -/
def fsmStart (s : State) : Work := ⟨{ s with tmr := countedTmr s, txFail := false }, [], false, false⟩

/-- The scheduler's part of a step under way, closed by the marks of phase (4) (R34, R35). -/
def markedSched (io : Input) (s : State) (w : Work) : Sched :=
  { w.next.sched with
    dirty := (if w.succ then s.wsnap else w.next.dirty) || writeAccepted io s
    wsnap := (w.next.wsnap && !w.snap) || writeAccepted io s }

/-- INIT (R168). -/
def initSched (io : Input) (s : State) : Sched :=
  if io.resOk = true ∧ io.blankFault = false then
    { steppedSched io s with st := .idle, tmrRun := true, tmr := s.params.periodCycles - 1 }
  else { steppedSched io s with st := .cfgfail }

/-- An accepted tick (R170). -/
def acceptedSched (io : Input) (s : State) : Sched :=
  { steppedSched io s with
    st := .pulse
    blank := true
    pcnt := s.params.pulseCycles - 1
    tickPend := false
    ovr := s.ovr || (timerExpired s && s.tickPend) }

/-- IDLE, in R169's order. -/
def idleSched (io : Input) (s : State) : Sched :=
  if io.blankFault then (steppedSched io s).toHalted
  else if stopRequested io s then (steppedSched io s).toStopped
  else if timerExpired s || s.tickPend then acceptedSched io s
  else steppedSched io s

/-- A snapshot (R172). -/
def snapshotSched (io : Input) (s : State) : Sched :=
  { heldSched io s with
    blank := false
    st := .xmit
    txReq := true
    fb := encodeFrame s.gs
    wsnap := writeAccepted io s }

/-- PULSE, in R171's order. -/
def pulseSched (io : Input) (s : State) : Sched :=
  if io.blankFault then (steppedSched io s).toHalted
  else if 0 < s.pcnt then { heldSched io s with pcnt := s.pcnt - 1 }
  else if stopRequested io s then { (heldSched io s).toStopped with blank := false }
  else if s.dirty then snapshotSched io s
  else { heldSched io s with blank := false, st := .idle }

/-- The end of a transaction, before the FSM leaves XMIT (R174, R175). -/
def completedSched (io : Input) (s : State) : Sched :=
  if io.txOk then { heldSched io s with txReq := false, dirty := writeAccepted io s || s.wsnap }
  else { heldSched io s with txReq := false, txFail := true, txerrCnt := sat16 (s.txerrCnt.toNat + 1) }

/-- XMIT (R174, R175, R180). -/
def xmitSched (io : Input) (s : State) : Sched :=
  if io.blankFault then (steppedSched io s).toHalted
  else if io.txDone then
    if stopRequested io s then (completedSched io s).toStopped else { completedSched io s with st := .idle }
  else heldSched io s

/-- The scheduler's part after a step without `rst`. -/
def schedAfter (io : Input) (s : State) : Sched :=
  match s.st with
  | .init => initSched io s
  | .idle => idleSched io s
  | .pulse => pulseSched io s
  | .xmit => xmitSched io s
  | .stopped | .halted | .cfgfail | .reserved7 => steppedSched io s

/-! The fields of these states, for `simp`. -/

@[simp] theorem steppedSched_fields (io : Input) (s : State) :
    let q := steppedSched io s
    q.st = s.st ∧ q.pcnt = s.pcnt ∧ q.tmr = countedTmr s ∧ q.tmrRun = s.tmrRun ∧ q.tickPend = s.tickPend ∧ q.ovr = s.ovr
      ∧ q.blank = s.blank ∧ q.fb = s.fb ∧ q.txReq = s.txReq ∧ q.txFail = false ∧ q.txerrCnt = s.txerrCnt
      ∧ q.dirty = (s.dirty || writeAccepted io s) ∧ q.wsnap = (s.wsnap || writeAccepted io s) := by
  simp [steppedSched, State.sched]

@[simp] theorem heldSched_fields (io : Input) (s : State) :
    let q := heldSched io s
    q.st = s.st ∧ q.pcnt = s.pcnt ∧ q.tmr = countedTmr s ∧ q.tmrRun = s.tmrRun
      ∧ q.tickPend = (s.tickPend || timerExpired s) ∧ q.ovr = (s.ovr || (timerExpired s && s.tickPend))
      ∧ q.blank = s.blank ∧ q.fb = s.fb ∧ q.txReq = s.txReq ∧ q.txFail = false ∧ q.txerrCnt = s.txerrCnt
      ∧ q.dirty = (s.dirty || writeAccepted io s) ∧ q.wsnap = (s.wsnap || writeAccepted io s) := by
  simp [heldSched]

@[simp] theorem toStopped_fields (q : Sched) :
    q.toStopped.st = .stopped ∧ q.toStopped.tmrRun = false ∧ q.toStopped.tickPend = false ∧ q.toStopped.pcnt = q.pcnt
      ∧ q.toStopped.tmr = q.tmr ∧ q.toStopped.ovr = q.ovr ∧ q.toStopped.blank = q.blank ∧ q.toStopped.fb = q.fb
      ∧ q.toStopped.txReq = q.txReq ∧ q.toStopped.txFail = q.txFail ∧ q.toStopped.txerrCnt = q.txerrCnt
      ∧ q.toStopped.dirty = q.dirty ∧ q.toStopped.wsnap = q.wsnap := by
  simp [Sched.toStopped]

@[simp] theorem toHalted_fields (q : Sched) :
    q.toHalted.st = .halted ∧ q.toHalted.tmrRun = false ∧ q.toHalted.tickPend = false ∧ q.toHalted.txReq = false
      ∧ q.toHalted.pcnt = q.pcnt ∧ q.toHalted.tmr = q.tmr ∧ q.toHalted.ovr = q.ovr ∧ q.toHalted.blank = q.blank
      ∧ q.toHalted.fb = q.fb ∧ q.toHalted.txFail = q.txFail ∧ q.toHalted.txerrCnt = q.txerrCnt
      ∧ q.toHalted.dirty = q.dirty ∧ q.toHalted.wsnap = q.wsnap := by
  simp [Sched.toHalted]

@[simp] theorem completedSched_fields (io : Input) (s : State) :
    let q := completedSched io s
    q.pcnt = s.pcnt ∧ q.tmr = countedTmr s ∧ q.tmrRun = s.tmrRun ∧ q.tickPend = (s.tickPend || timerExpired s)
      ∧ q.ovr = (s.ovr || (timerExpired s && s.tickPend)) ∧ q.blank = s.blank ∧ q.fb = s.fb ∧ q.txReq = false
      ∧ q.txFail = !io.txOk ∧ q.wsnap = (s.wsnap || writeAccepted io s) := by
  unfold completedSched
  cases io.txOk <;> simp

section
variable (io : Input) (s : State)

theorem fsmStart_eq :
    fsmStart s =
      { timerPhase io s (startWork s) with next := { (timerPhase io s (startWork s)).next with txFail := false } } := by
  rw [timerPhase_eq]
  rfl

/-- Beside its accesses, the step's scheduler is its FSM phase with the marks of phase (4). -/
theorem coreStep_sched_eq_marked : (coreStep io s).sched = markedSched io s (fsmPhase io s (fsmStart s)) := by
  have hwork : schedulerWork io s = strayCompletion io s (fsmPhase io s (fsmStart s)) := by
    rw [fsmStart_eq io]; rfl
  rw [coreStep_eq_phases, hwork]
  cases hwrite : writeAccepted io s <;> cases hsnap : (fsmPhase io s (fsmStart s)).snap <;>
    simp [State.sched, markedSched, reportPhase_next, stopPhase, dirtyPhase, withAccesses, hwrite, hsnap]

theorem markedSched_fsmStart : markedSched io s (fsmStart s) = steppedSched io s := by
  simp [markedSched, fsmStart, steppedSched, State.sched]

theorem markedSched_pendIfExpired : markedSched io s (pendIfExpired s (fsmStart s)) = heldSched io s := by
  simp [markedSched, pendIfExpired_eq, fsmStart, heldSched, steppedSched, State.sched, Bool.or_comm]

theorem markedSched_initCheckRule : markedSched io s (initCheckRule io s (fsmStart s)) = initSched io s := by
  unfold initCheckRule initSched
  rw [← markedSched_fsmStart]
  cases io.resOk <;> cases io.blankFault <;> rfl

theorem markedSched_idleRule : markedSched io s (idleRule io s (fsmStart s)) = idleSched io s := by
  have haccept : markedSched io s (tickAcceptRule io s (fsmStart s)) = acceptedSched io s := by
    rw [acceptedSched, ← markedSched_fsmStart, Bool.or_comm]
    rfl
  unfold idleRule idleSched
  rw [← haccept, ← markedSched_fsmStart]
  split_ifs <;> rfl

theorem markedSched_pulseRule : markedSched io s (pulseRule io s (fsmStart s)) = pulseSched io s := by
  have hsnapshot : markedSched io s (snapshotSendRule io s (fsmStart s)) = snapshotSched io s := by
    rw [snapshotSched, ← markedSched_pendIfExpired]
    simp [markedSched, snapshotSendRule, State.sched]
  unfold pulseRule pulseSched
  rw [← hsnapshot, ← markedSched_fsmStart, ← markedSched_pendIfExpired]
  split_ifs <;> rfl

theorem markedSched_leaveXmit (w : Work) :
    markedSched io s (leaveXmit io s w) =
      if stopRequested io s then (markedSched io s w).toStopped else { markedSched io s w with st := .idle } := by
  unfold leaveXmit
  split <;> rfl

/-- A success takes `dirty` from the writes since the snapshot (R174). -/
theorem markedSched_success :
    markedSched io s
        { pendIfExpired s (fsmStart s) with
          next := { (pendIfExpired s (fsmStart s)).next with txReq := false }, succ := true }
      = { heldSched io s with txReq := false, dirty := writeAccepted io s || s.wsnap } := by
  rw [← markedSched_pendIfExpired, Bool.or_comm]
  rfl

/-- A failure is counted and leaves `dirty` as it is (R175). -/
theorem markedSched_failure :
    markedSched io s
        (raise .transportError
          { pendIfExpired s (fsmStart s) with
            next := { (pendIfExpired s (fsmStart s)).next with txReq := false } })
      = { heldSched io s with
          txReq := false
          txFail := true
          txerrCnt := sat16 (s.txerrCnt.toNat + 1) } := by
  rw [← markedSched_pendIfExpired, pendIfExpired_eq]
  rfl

theorem markedSched_xmitRule : markedSched io s (xmitRule io s (fsmStart s)) = xmitSched io s := by
  unfold xmitRule xmitSched completedSched
  cases io.blankFault
  case true => rw [← markedSched_fsmStart]; rfl
  cases io.txDone
  case false => exact markedSched_pendIfExpired io s
  cases io.txOk
  case false => exact (markedSched_leaveXmit ..).trans (by rw [markedSched_failure]; rfl)
  case true => exact (markedSched_leaveXmit ..).trans (by rw [markedSched_success]; rfl)

/-- R160 to R182: the scheduler's part after a step without `rst`. -/
theorem coreStep_sched : (coreStep io s).sched = schedAfter io s := by
  rw [coreStep_sched_eq_marked, schedAfter]
  cases hs : s.st
  case init => rw [fsmPhase_of_init hs, markedSched_initCheckRule]
  case idle => rw [fsmPhase_of_idle hs, markedSched_idleRule]
  case pulse => rw [fsmPhase_of_pulse hs, markedSched_pulseRule]
  case xmit => rw [fsmPhase_of_xmit hs, markedSched_xmitRule]
  case stopped | halted | cfgfail | reserved7 =>
    rw [fsmPhase_of_gsclkEn_false (by simp [hs]) (by simp [State.gsclkEn, hs]), markedSched_fsmStart]

end

/-! ### Every edge without `rst` (R200, R201) -/

/-- Settles O7: where an operation runs through a rule body of its own, that body is the core's phase. -/
theorem everyOperationIsAViewOfTheStep : Obligations.EveryOperationIsAViewOfTheStep :=
  fun _ _ s hi => exec_eq_clockEdge hi s

@[simp] theorem coreStep_encOut (io : Input) (s : State) : (coreStep io s).encOut = s.encOut := by
  simp [coreStep, stepWith, dirtyPhase, stopPhase, timerPhase_eq, startWork]

@[simp] theorem coreStep_decOut (io : Input) (s : State) : (coreStep io s).decOut = s.decOut := by
  simp [coreStep, stepWith, dirtyPhase, stopPhase, timerPhase_eq, startWork]

theorem coreStep_registrySide (io : Input) (s : State) : RegistrySide io s (coreStep io s) where
  gs c h := by rw [← getElem_writtenChannels io s c h]; simp
  rdData := coreStep_rdData io s
  errInv := coreStep_errInv io s
  errProto := coreStep_errProto io s
  stopLat := coreStep_stopLat io s
  lastErr := coreStep_lastErr io s
  params := coreStep_params io s
  script := coreStep_script io s
  encOut := coreStep_encOut io s
  decOut := coreStep_decOut io s

/-- R200, from an operational state: the accesses and the reports beside the scheduler's part in closed form. -/
theorem exec_of_operational {i : Instr} {io : Input} {s : State} (h : Operational s) (hi : i.ports = some io)
    (hr : io.rst = false) : ∃ t, exec i s = .next t ∧ RegistrySide io s t ∧ t.sched = schedAfter io s :=
  ⟨coreStep io s, (exec_eq_clockEdge hi s).trans (clockEdge_of_operational h hr), coreStep_registrySide io s,
    coreStep_sched io s⟩

/-- Settles O8: each field is written by its own phase of the step. -/
theorem accessesHappenBesideEveryFsmRule : Obligations.AccessesHappenBesideEveryFsmRule :=
  fun io s h hr => ⟨coreStep io s, clockEdge_of_operational h hr, coreStep_registrySide io s⟩

/-! ### The FSM state and the period counter (R160, R161) -/

theorem schedAfter_st (io : Input) (s : State) : (schedAfter io s).st = fsmAfter io s := by
  cases hs : s.st
  case init => simp only [schedAfter, fsmAfter, hs, initSched]; split_ifs <;> rfl
  case idle =>
    simp only [schedAfter, fsmAfter, hs, idleSched]
    split_ifs <;> simp [acceptedSched, hs]
  case pulse =>
    simp only [schedAfter, fsmAfter, hs, pulseSched]
    split_ifs <;> simp [snapshotSched, hs]
  case xmit =>
    simp only [schedAfter, fsmAfter, hs, xmitSched]
    split_ifs <;> simp [hs]
  case stopped | halted | cfgfail | reserved7 => simp [schedAfter, fsmAfter, hs]

@[simp] theorem coreStep_st (io : Input) (s : State) : (coreStep io s).st = fsmAfter io s :=
  (congrArg Sched.st (coreStep_sched io s)).trans (schedAfter_st io s)

/-- Settles O9: each FSM rule leads where the table says. -/
theorem fsmFollowsTheTransitionTable : Obligations.FsmFollowsTheTransitionTable :=
  fun io s h hr => ⟨coreStep io s, clockEdge_of_operational h hr, coreStep_st io s⟩

/-- R161, R168: no FSM rule writes the counter but INIT's successful check. -/
theorem schedAfter_tmr (io : Input) (s : State) :
    (schedAfter io s).tmr =
      if s.st = .init ∧ io.resOk = true ∧ io.blankFault = false then s.params.periodCycles - 1 else countedTmr s := by
  cases hs : s.st
  case init => simp only [schedAfter, hs, initSched, true_and]; split_ifs <;> simp
  case idle =>
    simp only [schedAfter, hs, idleSched]
    split_ifs <;> simp_all [acceptedSched]
  case pulse =>
    simp only [schedAfter, hs, pulseSched]
    split_ifs <;> simp_all [snapshotSched]
  case xmit =>
    simp only [schedAfter, hs, xmitSched]
    split_ifs <;> simp_all
  case stopped | halted | cfgfail | reserved7 => simp [schedAfter, hs]

@[simp] theorem coreStep_tmr (io : Input) (s : State) :
    (coreStep io s).tmr =
      if s.st = .init ∧ io.resOk = true ∧ io.blankFault = false then s.params.periodCycles - 1 else countedTmr s :=
  (congrArg Sched.tmr (coreStep_sched io s)).trans (schedAfter_tmr io s)

/-- Settles O10: beside INIT's successful check, the counter is the one that the timer phase counts. -/
theorem periodCounterRunsByItself : Obligations.PeriodCounterRunsByItself := by
  intro io s h hr
  refine ⟨coreStep io s, clockEdge_of_operational h hr, ?_⟩
  rw [coreStep_tmr, countedTmr]
  cases s.tmrRun <;> simp

/-! ### INIT_CHECK (R168) -/

theorem writeAccepted_of_not_ready {s : State} (h : s.ready = false) (io : Input) : writeAccepted io s = false := by
  simp [writeAccepted, h]

/-- With no write accepted, no FSM rule acting changes only the counter and ends a `tx_fail` pulse. -/
theorem steppedSched_of_no_write {io : Input} {s : State} (h : writeAccepted io s = false) :
    steppedSched io s = { s.sched with tmr := countedTmr s, txFail := false } := by
  simp [steppedSched, State.sched, h]

/-- Settles O16: in INIT no access is taken, and every other port is reported by its own condition. -/
theorem initCheckStartsTheTimerOrFails : Obligations.InitCheckStartsTheTimerOrFails := by
  intro io s h hs
  have hready : s.ready = false := by simp [State.ready, hs]
  have hnowrite : writeAccepted { io with rst := false } s = false := writeAccepted_of_not_ready hready _
  refine ⟨coreStep { io with rst := false } s, ?exec, coreStep_registrySide _ s, ?gs, ?errInv, coreStep_stopLat _ s,
    ?errProto, ?sched⟩
  case exec => exact (exec_eq_clockEdge rfl s).trans (clockEdge_of_operational h rfl)
  case gs => exact coreStep_gs_of_not_accepted hnowrite
  case errInv => simp [invalidAccess, hready]
  case errProto => simp [strayDone, hs]
  case sched => simp [coreStep_sched, schedAfter, hs, initSched, steppedSched_of_no_write hnowrite]

/-! ### Teardown (R178) -/

/-- With a teardown requested, the rules of each FSM state are those of `stoppingSched`. -/
theorem schedAfter_of_stopRequested {io : Input} {s : State} (h : stopRequested io s = true) :
    schedAfter io s = stoppingSched io s := by
  cases hs : s.st
  case init | stopped | halted | cfgfail | reserved7 => simp [schedAfter, stoppingSched, hs, initSched]
  case idle => simp [schedAfter, stoppingSched, hs, idleSched, h]
  case pulse => simp [schedAfter, stoppingSched, hs, pulseSched, h]
  case xmit =>
    simp only [schedAfter, stoppingSched, hs, xmitSched, completedSched, h]
    split_ifs <;> rfl

/-- Settles O28: a request of this step or an earlier one is `stop` of R165, and the latch keeps it. -/
theorem stopRequestIsLatchedAndTaken : Obligations.StopRequestIsLatchedAndTaken := by
  have taken : ∀ {i io s}, Operational s → Instr.ports i = some io → io.rst = false → stopRequested io s = true →
      ∃ t, exec i s = .next t ∧ RegistrySide io s t ∧ t.stopLat = true ∧ t.sched = stoppingSched io s := by
    intro i io s h hi hr hstop
    obtain ⟨t, hexec, hside, hsched⟩ := exec_of_operational h hi hr
    exact ⟨t, hexec, hside, hside.stopLat.trans hstop, hsched.trans (schedAfter_of_stopRequested hstop)⟩
  exact ⟨fun io s h => taken h rfl rfl (by simp [stopRequested]),
    fun i io s h hi hr hlat => taken h hi hr (by simp [stopRequested, hlat])⟩

/-! ### Completions (R174, R175, R177) -/

theorem schedAfter_of_completion {io : Input} {s : State} (hs : s.st = .xmit) (hfault : io.blankFault = false)
    (hdone : io.txDone = true) :
    schedAfter io s =
      if stopRequested io s then (completedSched io s).toStopped else { completedSched io s with st := .idle } := by
  simp [schedAfter, hs, xmitSched, hfault, hdone]

/-- Settles O29: the step is the completion of XMIT with a success. -/
theorem transmitSuccessClearsDirtyIfNothingWritten : Obligations.TransmitSuccessClearsDirtyIfNothingWritten := by
  intro io s h hs hfault
  obtain ⟨t, hexec, hside, hsched⟩ := exec_of_operational (i := .txDoneOk io) h rfl rfl
  exact ⟨t, hexec, hside, hsched.trans (schedAfter_of_completion hs hfault rfl)⟩

/-- R9: the saturated sum of a 16-bit counter and one stays at the greatest count. -/
theorem sat16_succ (x : BitVec 16) : sat16 (x.toNat + 1) = if x = 0xFFFF then 0xFFFF else x + 1 := by
  split_ifs with h
  · rw [h]; rfl
  · have hlt : x.toNat < 65535 := by
      have hne : x.toNat ≠ 65535 := fun hx => h (BitVec.eq_of_toNat_eq hx)
      have hle : x.toNat < 65536 := x.isLt
      omega
    rw [sat16, min_eq_left (by omega), BitVec.ofNat_add, BitVec.ofNat_toNat, BitVec.setWidth_eq]
    rfl

/-- R211, R214: a failed completion is reported before anything else that XMIT can raise without a link fault. -/
theorem errAfter_of_failureTaken {io : Input} {s : State} (h : failureTaken io s = true) :
    errAfter io s = .raised .transportError := by
  simp only [failureTaken, completionTaken, Bool.and_eq_true, beq_iff_eq, Bool.not_eq_true'] at h
  obtain ⟨⟨⟨hs, hfault⟩, hdone⟩, hok⟩ := h
  simp [errAfter, causesOf, hs, hfault, hdone, hok]

/-- Settles O30: the step is the completion of XMIT with a failure. -/
theorem transmitFailureIsCountedAndKeepsDirty : Obligations.TransmitFailureIsCountedAndKeepsDirty := by
  intro io s h hs hfault
  obtain ⟨t, hexec, hside, hsched⟩ := exec_of_operational (i := .txDoneFail io) h rfl rfl
  refine ⟨t, hexec, hside, ?lastErr, ?sched⟩
  case lastErr =>
    exact hside.lastErr.trans (errAfter_of_failureTaken (by simp [failureTaken, completionTaken, hs, hfault]))
  case sched =>
    rw [← sat16_succ]
    exact hsched.trans (schedAfter_of_completion hs hfault rfl)

/-- The ports of a step without `rst` and with a completion, successful or not. -/
def completionPorts (io : Input) (ok : Bool) : Input := { io with rst := false, txDone := true, txOk := ok }

/-- The ports of the same step without the completion. -/
def noCompletionPorts (io : Input) : Input := { io with rst := false, txDone := false }

theorem strayDone_completionPorts (io : Input) (ok : Bool) (s : State) :
    strayDone (completionPorts io ok) s = true ↔ s.st = .init ∨ s.st = .idle ∨ s.st = .pulse ∨ s.st = .stopped := by
  simp [strayDone, completionPorts]

section
variable {io : Input} {s : State} (h : s.st = .xmit → io.blankFault = true) (ok : Bool)
include h

/-- R177, R180: no FSM rule takes a completion outside a transaction or beside a link fault. -/
theorem fsmPhase_of_untaken_completion (w : Work) :
    fsmPhase (completionPorts io ok) s w = fsmPhase (noCompletionPorts io) s w := by
  cases hs : s.st
  case init => rw [fsmPhase_of_init hs, fsmPhase_of_init hs]; rfl
  case idle => rw [fsmPhase_of_idle hs, fsmPhase_of_idle hs]; rfl
  case pulse => rw [fsmPhase_of_pulse hs, fsmPhase_of_pulse hs]; rfl
  case xmit => simp [fsmPhase_of_xmit hs, xmitRule, completionPorts, noCompletionPorts, h hs]
  case stopped | halted | cfgfail | reserved7 => simp [fsmPhase, hs]

/-- So it adds at most its report to the step without it. -/
theorem coreStep_of_untaken_completion :
    coreStep (completionPorts io ok) s =
      { coreStep (noCompletionPorts io) s with
        errProto := s.errProto || strayDone (completionPorts io ok) s
        lastErr := errAfter (completionPorts io ok) s } := by
  have hwork : schedulerWork (completionPorts io ok) s =
      if strayDone (completionPorts io ok) s then raise .protocolViolation (schedulerWork (noCompletionPorts io) s)
      else schedulerWork (noCompletionPorts io) s := by
    rw [← strayCompletion_eq_ite, schedulerWork, fsmPhase_of_untaken_completion h]
    rfl
  rw [← coreStep_errProto, ← coreStep_lastErr]
  simp only [coreStep_eq_phases, reportPhase_next, hwork]
  cases strayDone (completionPorts io ok) s <;> rfl

/-- An untaken completion that is not stray either is no cause. -/
theorem errAfter_of_ignored_completion (hstray : strayDone (completionPorts io ok) s = false) :
    errAfter (completionPorts io ok) s = errAfter (noCompletionPorts io) s := by
  have hnofail : ¬(s.st = .xmit ∧ (completionPorts io ok).txDone = true ∧ (completionPorts io ok).txOk = false
      ∧ (completionPorts io ok).blankFault = false) := by
    rintro ⟨hs, -, -, hfault⟩
    exact Bool.false_ne_true (hfault.symm.trans (h hs))
  have hcauses : causesOf (completionPorts io ok) s = causesOf (noCompletionPorts io) s := by
    have hnone : strayDone (noCompletionPorts io) s = false := rfl
    have hnone' : ¬(s.st = .xmit ∧ (noCompletionPorts io).txDone = true ∧ (noCompletionPorts io).txOk = false
        ∧ (noCompletionPorts io).blankFault = false) := fun ⟨_, hdone, _⟩ =>
      Bool.false_ne_true hdone
    simp only [causesOf, hstray, hnone, if_neg hnofail, if_neg hnone']
    rfl
  simp only [errAfter, hcauses]

end

/-- Settles O31: no FSM rule takes the completion, and its one report is PROTOCOL_VIOLATION's. -/
theorem strayCompletionIsReportedAndIgnored : Obligations.StrayCompletionIsReportedAndIgnored := by
  intro io s ok h huntaken i
  have hports : i.ports = some (completionPorts io ok) := by cases ok <;> rfl
  refine ⟨coreStep (noCompletionPorts io) s, clockEdge_of_operational h rfl, ?_⟩
  rw [exec_eq_clockEdge hports, clockEdge_of_operational h rfl, coreStep_of_untaken_completion huntaken]
  split_ifs with hs
  case pos =>
    rw [(strayDone_completionPorts io ok s).2 hs, Bool.or_true]
    rfl
  case neg =>
    have hstray : strayDone (completionPorts io ok) s = false :=
      Bool.eq_false_iff.2 (mt (strayDone_completionPorts io ok s).1 hs)
    have hproto : (coreStep (noCompletionPorts io) s).errProto = s.errProto := by simp [strayDone, noCompletionPorts]
    rw [errAfter_of_ignored_completion huntaken ok hstray, hstray, Bool.or_false, ← hproto, ← coreStep_lastErr]

/-! ### The link fault (R180) -/

theorem errAfter_of_linkFault {io : Input} {s : State} (hs : s.st.Running) (hfault : io.blankFault = true) :
    errAfter io s = .raised .hardwareLinkError := by
  have hinit : s.st ≠ .init := by rintro hst; simp [hst, FsmState.Running] at hs
  simp [errAfter, causesOf, hinit, hs, hfault]

section
variable {io : Input} {s : State}

theorem schedAfter_of_linkFault (hs : s.st.Running) (hfault : io.blankFault = true) :
    schedAfter io s = (steppedSched io s).toHalted := by
  obtain hs | hs | hs := hs <;> simp [schedAfter, hs, idleSched, pulseSched, xmitSched, hfault]

theorem schedAfter_of_init_linkFault (hs : s.st = .init) (hfault : io.blankFault = true) :
    schedAfter io s = { steppedSched io s with st := .cfgfail } := by
  simp [schedAfter, hs, initSched, hfault]

theorem schedAfter_of_terminal (hs : s.st.Terminal) : schedAfter io s = steppedSched io s := by
  obtain hs | hs | hs := hs <;> simp [schedAfter, hs]

end

/-- Settles O32: a link fault is the first thing each FSM state looks at. -/
theorem linkFaultHaltsTheScheduler : Obligations.LinkFaultHaltsTheScheduler := by
  intro io s h
  obtain ⟨t, hexec, hside, hsched⟩ := exec_of_operational (i := .blankFault io) h rfl rfl
  refine ⟨t, hexec, hside, fun hs => hside.lastErr.trans (errAfter_of_linkFault hs rfl), hsched.trans ?_⟩
  cases hs : s.st
  case init => exact schedAfter_of_init_linkFault hs rfl
  case idle | pulse | xmit => exact schedAfter_of_linkFault (by rw [hs]; decide) rfl
  case stopped | halted | cfgfail => exact schedAfter_of_terminal (by rw [hs]; decide)
  case reserved7 => exact absurd hs h.fsm

/-- Settles O39: no rule acts in a terminal state. -/
theorem terminalStatesAreLeftOnlyByReset : Obligations.TerminalStatesAreLeftOnlyByReset := by
  intro i io s h hs hi hr
  obtain ⟨t, hexec, -, hsched⟩ := exec_of_operational h hi hr
  rw [schedAfter_of_terminal hs] at hsched
  exact ⟨t, hexec, (congrArg Sched.st hsched).trans (steppedSched_fields io s).1, hsched⟩

/-! ### The timer and the pulse (R161, R162, R170 to R173) -/

section
variable {io : Input} {s : State}

theorem timerExpired_iff (s : State) : timerExpired s = true ↔ s.tmrRun = true ∧ s.tmr = 0 := by
  simp [timerExpired]

theorem schedAfter_of_tickAcceptSelected (h : tickAcceptSelected io s = true) :
    schedAfter io s = acceptedSched io s := by
  simp only [tickAcceptSelected, Bool.and_eq_true, beq_iff_eq, Bool.not_eq_true'] at h
  obtain ⟨⟨⟨hs, htick⟩, hstop⟩, hfault⟩ := h
  simp [schedAfter, hs, idleSched, htick, hstop, hfault]

theorem schedAfter_of_pulseHoldSelected (h : pulseHoldSelected io s = true) :
    schedAfter io s = { heldSched io s with pcnt := s.pcnt - 1 } := by
  simp only [pulseHoldSelected, Bool.and_eq_true, beq_iff_eq, decide_eq_true_eq, Bool.not_eq_true'] at h
  obtain ⟨⟨hs, hcount⟩, hfault⟩ := h
  simp [schedAfter, hs, pulseSched, hcount, hfault]

theorem schedAfter_of_pulseEndCleanSelected (h : pulseEndCleanSelected io s = true) :
    schedAfter io s = { heldSched io s with blank := false, st := .idle } := by
  simp only [pulseEndCleanSelected, Bool.and_eq_true, beq_iff_eq, Bool.not_eq_true'] at h
  obtain ⟨⟨⟨⟨hs, hcount⟩, hclean⟩, hstop⟩, hfault⟩ := h
  simp [schedAfter, hs, pulseSched, hcount, hclean, hstop, hfault]

theorem schedAfter_of_snapshotSendSelected (h : snapshotSendSelected io s = true) :
    schedAfter io s = snapshotSched io s := by
  obtain ⟨hs, hcount, hdirty, hstop, hfault⟩ := (snapshotSendSelected_iff io s).1 h
  simp [schedAfter, hs, pulseSched, hcount, hdirty, hstop, hfault]

end

/-- Settles O34: its hypotheses are the selection of TICK_ACCEPT. -/
theorem tickAcceptStartsThePulse : Obligations.TickAcceptStartsThePulse := by
  intro io s h hs htick hlat hstop hfault
  have hsel : tickAcceptSelected { io with rst := false } s = true := by
    rw [← timerExpired_iff] at htick
    simpa [tickAcceptSelected, stopRequested, hs, hlat, hstop, hfault] using htick
  obtain ⟨t, hexec, hside, hsched⟩ := exec_of_operational (i := .tickAccept io) h rfl rfl
  exact ⟨t, hexec, hside, hsched.trans (schedAfter_of_tickAcceptSelected hsel)⟩

/-- Settles O35: its hypotheses are the selection of PULSE_HOLD. -/
theorem pulseHoldKeepsBlankHigh : Obligations.PulseHoldKeepsBlankHigh := by
  intro io s h hs hcount hfault
  have hsel : pulseHoldSelected { io with rst := false } s = true := by
    simp [pulseHoldSelected, hs, hcount, hfault]
  obtain ⟨t, hexec, hside, hsched⟩ := exec_of_operational (i := .pulseHold io) h rfl rfl
  exact ⟨t, hexec, hside, hsched.trans (schedAfter_of_pulseHoldSelected hsel)⟩

/-- Settles O36: its hypotheses are the selection of PULSE_END_CLEAN. -/
theorem cleanPulseEndReturnsToIdle : Obligations.CleanPulseEndReturnsToIdle := by
  intro io s h hs hcount hclean hlat hstop hfault
  have hsel : pulseEndCleanSelected { io with rst := false } s = true := by
    simp [pulseEndCleanSelected, stopRequested, hs, hcount, hclean, hlat, hstop, hfault]
  obtain ⟨t, hexec, hside, hsched⟩ := exec_of_operational (i := .pulseEndClean io) h rfl rfl
  exact ⟨t, hexec, hside, hsched.trans (schedAfter_of_pulseEndCleanSelected hsel)⟩

/-- Settles O37: its hypotheses are the selection of SNAPSHOT_SEND, and the device was dirty. -/
theorem snapshotSendStartsTheTransaction : Obligations.SnapshotSendStartsTheTransaction := by
  intro io s h hs hcount hdirty hlat hstop hfault
  have hsel : snapshotSendSelected { io with rst := false } s = true := by
    simp [snapshotSendSelected, stopRequested, hs, hcount, hdirty, hlat, hstop, hfault]
  have hmarked : snapshotSched { io with rst := false } s
      = { snapshotSched { io with rst := false } s with dirty := true } := by
    simp [snapshotSched, hdirty]
  obtain ⟨t, hexec, hside, hsched⟩ := exec_of_operational (i := .snapshotSend io) h rfl rfl
  rw [schedAfter_of_snapshotSendSelected hsel, hmarked] at hsched
  exact ⟨t, hexec, hside, hsched⟩

section
variable {io : Input} {s : State}

/-- R169: IDLE accepts a tick at an expiry unless a teardown or a link fault comes first. -/
theorem coreStep_accepts_expiry (hs : s.st = .idle) (hfault : io.blankFault = false) (hstop : stopRequested io s = false)
    (hexp : timerExpired s = true) : (coreStep io s).st = .pulse ∧ (coreStep io s).tickPend = false := by
  have hsel : tickAcceptSelected io s = true := by simp [tickAcceptSelected, hs, hfault, hstop, hexp]
  have hsched := (coreStep_sched io s).trans (schedAfter_of_tickAcceptSelected hsel)
  exact ⟨congrArg Sched.st hsched, congrArg Sched.tickPend hsched⟩

/-- R178, R180: a teardown or a link fault in IDLE discards the tick. -/
theorem coreStep_discards_expiry (hs : s.st = .idle) (h : io.blankFault = true ∨ stopRequested io s = true) :
    (coreStep io s).tickPend = false ∧ (coreStep io s).ovr = s.ovr := by
  have hsched : schedAfter io s = (steppedSched io s).toHalted ∨ schedAfter io s = (steppedSched io s).toStopped := by
    simp only [schedAfter, hs, idleSched]
    split_ifs <;> simp_all
  refine ⟨(congrArg Sched.tickPend (coreStep_sched io s)).trans ?_, (congrArg Sched.ovr (coreStep_sched io s)).trans ?_⟩
  · obtain hsched | hsched := hsched <;> simp [hsched]
  · obtain hsched | hsched := hsched <;> simp [hsched]

/-- R162, R178: PULSE and XMIT hold an expiry until they enter STOPPED, and record one that was held already. -/
theorem coreStep_holds_expiry (hs : s.st = .pulse ∨ s.st = .xmit) (hfault : io.blankFault = false)
    (hexp : timerExpired s = true) :
    (coreStep io s).ovr = (s.ovr || s.tickPend)
      ∧ ((coreStep io s).tickPend = true ↔ (coreStep io s).st ≠ .stopped) := by
  have hrun : s.gsclkEn = true := by obtain hs | hs := hs <;> simp [State.gsclkEn, hs]
  have hidle : (s.st == .idle) = false := by obtain hs | hs := hs <;> rw [hs] <;> rfl
  refine ⟨by simp [expiriesFold, hrun, hidle, hfault, hexp], ?_⟩
  have hheld : (schedAfter io s).tickPend = true ↔ (schedAfter io s).st ≠ .stopped := by
    obtain hs | hs := hs
    · simp only [schedAfter, hs, pulseSched, hfault]
      split_ifs <;> simp_all [snapshotSched]
    · simp only [schedAfter, hs, xmitSched, hfault]
      split_ifs <;> simp_all
  rwa [← coreStep_sched] at hheld

theorem failureTaken_iff (io : Input) (s : State) :
    failureTaken io s = true ↔ s.st = .xmit ∧ io.blankFault = false ∧ io.txDone = true ∧ io.txOk = false := by
  simp [failureTaken, completionTaken, and_assoc]

end

/-- Settles O33: the reload and the failure counter are fixed in every step, and an expiry is accepted, discarded or held by
the FSM state's own rules. -/
theorem timerExpiryReloadsAndIsHeld : Obligations.TimerExpiryReloadsAndIsHeld := by
  intro io s h hrun hzero
  have hexp : timerExpired s = true := (timerExpired_iff s).2 ⟨hrun, hzero⟩
  refine ⟨coreStep { io with rst := false } s, ?exec, coreStep_registrySide _ s, ?reload,
    fun hs hfault hstop => coreStep_accepts_expiry hs hfault hstop hexp,
    fun hs hfault => coreStep_holds_expiry hs hfault hexp,
    fun hs hdiscard => coreStep_discards_expiry hs hdiscard, ?counted⟩
  case exec => exact (exec_eq_clockEdge rfl s).trans (clockEdge_of_operational h rfl)
  case reload => simp [countedTmr, hrun, hzero]
  case counted => simp only [coreStep_txerrCnt, failureTaken_iff]

/-! ### NOP (R200) -/

/-- The ports of a step that requests nothing. -/
def nopPorts (io : Input) : Input :=
  { io with rst := false, wrEn := false, rdEn := false, stopReq := false, txDone := false, blankFault := false }

section
variable (io : Input) (s : State)

theorem causesOf_nopPorts :
    causesOf (nopPorts io) s = if s.st = .init ∧ io.resOk = false then [.configurationError] else [] := by
  simp [causesOf, nopPorts, strayDone, invalidAccess]

theorem errAfter_nopPorts :
    errAfter (nopPorts io) s = if s.st = .init ∧ io.resOk = false then .raised .configurationError else s.lastErr := by
  rw [errAfter, causesOf_nopPorts]
  split_ifs <;> rfl

theorem steppedSched_nopPorts : steppedSched (nopPorts io) s = { s.sched with tmr := countedTmr s, txFail := false } :=
  steppedSched_of_no_write rfl

variable {s}

/-- With no tick, no teardown and no port asserted, IDLE and the terminal states only count. -/
theorem schedAfter_nopPorts_at_rest
    (h : s.st = .idle ∧ timerExpired s = false ∧ s.tickPend = false ∧ s.stopLat = false ∨ s.st.Terminal) :
    schedAfter (nopPorts io) s = steppedSched (nopPorts io) s := by
  obtain ⟨hs, hexp, hpend, hlat⟩ | hs := h
  case inl => simp [schedAfter, hs, idleSched, stopRequested, nopPorts, hexp, hpend, hlat]
  case inr => exact schedAfter_of_terminal hs

/-- With no completion XMIT waits. -/
theorem schedAfter_nopPorts_xmit (hs : s.st = .xmit) : schedAfter (nopPorts io) s = heldSched (nopPorts io) s := by
  simp [schedAfter, hs, xmitSched, nopPorts]

end

/-- Settles O38: with no port asserted, no access is taken, no completion and no teardown is seen, and the one cause left is
INIT's. -/
theorem nopLeavesTheRegistryAlone : Obligations.NopLeavesTheRegistryAlone := by
  intro io s h
  have hnowrite : writeAccepted (nopPorts io) s = false := rfl
  have hnosuccess : successTaken (nopPorts io) s = false := by simp [successTaken, nopPorts]
  have hnofailure : failureTaken (nopPorts io) s = false := by simp [failureTaken, nopPorts]
  refine ⟨coreStep (nopPorts io) s, clockEdge_of_operational h rfl, coreStep_gs_of_not_accepted hnowrite, ?rdData, ?errInv,
    ?errProto, ?stopLat, ?txerrCnt, coreStep_params _ s, coreStep_script _ s, coreStep_encOut _ s, coreStep_decOut _ s,
    (coreStep_lastErr _ s).trans (errAfter_nopPorts io s), ?dirty, fun hrest => ?rest, fun hs => ?xmit⟩
  case rdData => simp [readPort, nopPorts]
  case errInv => simp [invalidAccess, nopPorts]
  case errProto => simp [strayDone, nopPorts]
  case stopLat => simp [nopPorts]
  case txerrCnt => simp [hnofailure]
  case dirty => simp [hnowrite, hnosuccess]
  case rest => rw [coreStep_sched, schedAfter_nopPorts_at_rest io hrest, steppedSched_nopPorts]
  case xmit => rw [coreStep_sched, schedAfter_nopPorts_xmit io hs, heldSched, steppedSched_nopPorts]

end Sys2Proof.Proofs
end

section
/-! PROOFS. The scheduler (42_scheduler.md), along a run: the invariants of R184 and the ranges of the counters, step by step
and from reset, the level of BLANK, the grid of expiries (R163) and the length of a pulse (R171, R176). -/

namespace Sys2Proof.Proofs

open Sys2Proof.Machine

/-! ### The invariants of the scheduler's part (R184) -/

/-- R184's invariants and the counters' ranges, of the scheduler's part alone. -/
structure SchedCoherent (p : Params) (q : Sched) : Prop where
  xmit_iff_request : q.st = .xmit ↔ q.txReq = true
  xmit_dirty : q.st = .xmit → q.dirty = true
  timer_iff_running : q.tmrRun = true ↔ q.st.Running
  tmr_range : q.tmr < p.periodCycles
  pcnt_range : q.pcnt < p.pulseCycles
  pend_running : q.tickPend = true → q.st.Running
  pulse_blank : q.st = .pulse → q.blank = true
  wsnap_dirty : q.wsnap = true → q.dirty = true
  fail_after_xmit : q.txFail = true → q.st = .idle ∨ q.st = .stopped

/-- A coherent state's scheduler part keeps them. -/
theorem schedCoherent_of_coherent {s : State} (h : Coherent s) : SchedCoherent s.params s.sched :=
  { h with }

theorem coherent_consumeWord {s : State} (h : Coherent s) : Coherent (consumeWord s) :=
  { h with }

theorem pulseCycles_pos {p : Params} (h : paramsValid p = true) : 0 < p.pulseCycles := by
  simp only [paramsValid, Bool.and_eq_true, decide_eq_true_eq] at h
  omega

/-- R161: the counter stays in its range. -/
theorem countedTmr_lt {s : State} (h : s.tmr < s.params.periodCycles) : countedTmr s < s.params.periodCycles := by
  unfold countedTmr
  split_ifs <;> omega

namespace SchedCoherent

theorem toHalted {p : Params} {q : Sched} (h : SchedCoherent p q) (hfail : q.txFail = false) :
    SchedCoherent p q.toHalted :=
  { h with
    xmit_iff_request := by simp
    xmit_dirty := by simp
    timer_iff_running := by simp [FsmState.Running]
    pend_running := by simp
    pulse_blank := by simp
    fail_after_xmit := by simp [hfail] }

/-- STOPPED is entered with no transaction in flight. -/
theorem toStopped {p : Params} {q : Sched} (h : SchedCoherent p q) (hreq : q.txReq = false) :
    SchedCoherent p q.toStopped :=
  { h with
    xmit_iff_request := by simp [hreq]
    xmit_dirty := by simp
    timer_iff_running := by simp [FsmState.Running]
    pend_running := by simp
    pulse_blank := by simp
    fail_after_xmit := by simp }

end SchedCoherent

section
variable {io : Input} {s : State}

theorem steppedSched_coherent (h : Coherent s) : SchedCoherent s.params (steppedSched io s) :=
  { schedCoherent_of_coherent h with
    xmit_dirty := fun hs => by simp [h.xmit_dirty hs]
    tmr_range := countedTmr_lt h.tmr_range
    wsnap_dirty := by
      simp only [steppedSched_fields, Bool.or_eq_true]
      exact Or.imp_left h.wsnap_dirty
    fail_after_xmit := by simp }

/-- An expiry is held only while the timer runs. -/
theorem heldSched_coherent (h : Coherent s) (hs : s.st.Running) : SchedCoherent s.params (heldSched io s) :=
  { steppedSched_coherent h with
    pend_running := fun _ => hs }

/-- The timer is stopped in INIT, and no tick is held. -/
theorem initSched_coherent (h : Coherent s) (hs : s.st = .init) : SchedCoherent s.params (initSched io s) := by
  have hreq : s.txReq = false := by simpa [hs] using h.xmit_iff_request
  have hrun : s.tmrRun = false := by simpa [hs, FsmState.Running] using h.timer_iff_running
  have hpend : s.tickPend = false := by simpa [hs, FsmState.Running] using h.pend_running
  have hperiod : 0 < s.params.periodCycles := Nat.zero_lt_of_lt h.tmr_range
  unfold initSched
  split_ifs
  case pos =>
    exact { steppedSched_coherent (io := io) h with
      xmit_iff_request := by simp [hreq]
      xmit_dirty := by simp
      timer_iff_running := by simp [FsmState.Running]
      tmr_range := Nat.sub_lt hperiod Nat.one_pos
      pend_running := by simp [FsmState.Running]
      pulse_blank := by simp
      fail_after_xmit := by simp }
  case neg =>
    exact { steppedSched_coherent (io := io) h with
      xmit_iff_request := by simp [hreq]
      xmit_dirty := by simp
      timer_iff_running := by simp [hrun, FsmState.Running]
      pend_running := by simp [hpend]
      pulse_blank := by simp
      fail_after_xmit := by simp }

theorem acceptedSched_coherent (h : Coherent s) (hs : s.st = .idle) : SchedCoherent s.params (acceptedSched io s) :=
  have hreq : s.txReq = false := by simpa [hs] using h.xmit_iff_request
  have hrun : s.tmrRun = true := h.timer_iff_running.2 (.inl hs)
  { steppedSched_coherent (io := io) h with
    xmit_iff_request := by simp [acceptedSched, hreq]
    xmit_dirty := by simp [acceptedSched]
    timer_iff_running := by simp [acceptedSched, hrun, FsmState.Running]
    pcnt_range := Nat.sub_lt (pulseCycles_pos h.params) Nat.one_pos
    pend_running := by simp [acceptedSched]
    pulse_blank := by simp [acceptedSched]
    fail_after_xmit := by simp [acceptedSched] }

theorem idleSched_coherent (h : Coherent s) (hs : s.st = .idle) : SchedCoherent s.params (idleSched io s) := by
  have hstepped : SchedCoherent s.params (steppedSched io s) := steppedSched_coherent h
  have hreq : s.txReq = false := by simpa [hs] using h.xmit_iff_request
  unfold idleSched
  split_ifs
  · exact hstepped.toHalted (by simp)
  · exact hstepped.toStopped (by simp [hreq])
  · exact acceptedSched_coherent h hs
  · exact hstepped

/-- R172: the device is dirty where a transaction starts. -/
theorem snapshotSched_coherent (h : Coherent s) (hs : s.st = .pulse) (hdirty : s.dirty = true) :
    SchedCoherent s.params (snapshotSched io s) :=
  have hrunning : s.st.Running := .inr (.inl hs)
  { heldSched_coherent (io := io) h hrunning with
    xmit_iff_request := by simp [snapshotSched]
    xmit_dirty := by simp [snapshotSched, hdirty]
    timer_iff_running := by simp [snapshotSched, h.timer_iff_running.2 hrunning, FsmState.Running]
    pend_running := by simp [snapshotSched, FsmState.Running]
    pulse_blank := by simp [snapshotSched]
    wsnap_dirty := by simp [snapshotSched, hdirty]
    fail_after_xmit := by simp [snapshotSched] }

theorem pulseSched_coherent (h : Coherent s) (hs : s.st = .pulse) : SchedCoherent s.params (pulseSched io s) := by
  have hrunning : s.st.Running := .inr (.inl hs)
  have hheld : SchedCoherent s.params (heldSched io s) := heldSched_coherent h hrunning
  have hreq : s.txReq = false := by simpa [hs] using h.xmit_iff_request
  unfold pulseSched
  split_ifs with hfault hcount hstop hdirty
  · exact (steppedSched_coherent h).toHalted (by simp)
  · exact { hheld with pcnt_range := (Nat.sub_le ..).trans_lt h.pcnt_range }
  · exact { hheld.toStopped (by simp [hreq]) with pulse_blank := by simp }
  · exact snapshotSched_coherent h hs hdirty
  · exact { hheld with
      xmit_iff_request := by simp [hreq]
      xmit_dirty := by simp
      timer_iff_running := by simp [h.timer_iff_running.2 hrunning, FsmState.Running]
      pend_running := by simp [FsmState.Running]
      pulse_blank := by simp
      fail_after_xmit := by simp }

/-- R174, R175: a transaction that has ended leaves for IDLE with the invariants, a success with its write marks. -/
theorem completedSched_coherent (h : Coherent s) (hs : s.st = .xmit) :
    SchedCoherent s.params { completedSched io s with st := .idle } := by
  have hrunning : s.st.Running := .inr (.inr hs)
  have hdirty : s.dirty = true := h.xmit_dirty hs
  exact { heldSched_coherent (io := io) h hrunning with
    xmit_iff_request := by simp
    xmit_dirty := by simp
    timer_iff_running := by simp [h.timer_iff_running.2 hrunning, FsmState.Running]
    tmr_range := by simpa using countedTmr_lt h.tmr_range
    pcnt_range := by simpa using h.pcnt_range
    pend_running := by simp [FsmState.Running]
    pulse_blank := by simp
    wsnap_dirty := by cases hok : io.txOk <;> simp [completedSched, hok, hdirty, or_comm]
    fail_after_xmit := by simp }

theorem xmitSched_coherent (h : Coherent s) (hs : s.st = .xmit) : SchedCoherent s.params (xmitSched io s) := by
  have hdone : SchedCoherent s.params { completedSched io s with st := .idle } := completedSched_coherent h hs
  unfold xmitSched
  split_ifs
  · exact (steppedSched_coherent h).toHalted (by simp)
  · exact hdone.toStopped (by simp)
  · exact hdone
  · exact heldSched_coherent h (.inr (.inr hs))

/-- Every step without `rst` keeps the invariants of the scheduler's part. -/
theorem schedAfter_coherent (h : Coherent s) : SchedCoherent s.params (schedAfter io s) := by
  unfold schedAfter
  cases hs : s.st
  case init => exact initSched_coherent h hs
  case idle => exact idleSched_coherent h hs
  case pulse => exact pulseSched_coherent h hs
  case xmit => exact xmitSched_coherent h hs
  case stopped | halted | cfgfail | reserved7 => exact steppedSched_coherent h

/-! ### The reports (R211, R214) -/

/-- A cause that `last_err` shows after a step was shown before it or is one of the step's. -/
theorem errAfter_eq_raised {c : Cause} (h : errAfter io s = .raised c) : c ∈ causesOf io s ∨ s.lastErr = .raised c := by
  unfold errAfter at h
  split at h
  · exact .inr h
  next c' cs hcauses =>
    obtain rfl : c' = c := by simpa using h
    exact .inl (by simp [hcauses])

theorem errAfter_isReserved (h : s.lastErr.isReserved = false) : (errAfter io s).isReserved = false := by
  unfold errAfter
  split
  · exact h
  · rfl

theorem invalidChannel_mem_causesOf (h : .invalidChannel ∈ causesOf io s) : invalidAccess io s = true := by
  simpa [causesOf] using h

theorem protocolViolation_mem_causesOf (h : .protocolViolation ∈ causesOf io s) : strayDone io s = true := by
  simpa [causesOf] using h

theorem transportError_mem_causesOf (h : .transportError ∈ causesOf io s) : failureTaken io s = true := by
  rw [failureTaken_iff]
  simpa [causesOf, and_assoc, and_comm, and_left_comm] using h

/-- R182: CFGFAIL is entered with its report, and nothing is reported in it. -/
theorem errAfter_of_fsmAfter_cfgfail (hkept : s.st = .cfgfail → s.lastErr = .raised .configurationError)
    (h : fsmAfter io s = .cfgfail) : errAfter io s = .raised .configurationError := by
  cases hs : s.st
  case init =>
    have hfailed : io.resOk = false ∨ io.blankFault = true := by
      simp only [fsmAfter, hs] at h
      split_ifs at h with hok
      cases hres : io.resOk <;> simp_all
    simp [errAfter, causesOf, hs, hfailed]
  case cfgfail =>
    have hready : s.ready = false := by simp [State.ready, hs]
    simp [errAfter, causesOf, strayDone, invalidAccess, hready, FsmState.Running, hs, hkept hs]
  case idle | pulse | xmit =>
    simp only [fsmAfter, hs] at h
    split_ifs at h
  case stopped | halted | reserved7 => simp [fsmAfter, hs] at h

/-- R178: STOPPED is entered on a teardown request alone. -/
theorem stopRequested_of_fsmAfter_stopped (hkept : s.st = .stopped → s.stopLat = true) (h : fsmAfter io s = .stopped) :
    stopRequested io s = true := by
  cases hs : s.st
  case stopped => simp [stopRequested, hkept hs]
  case init =>
    simp only [fsmAfter, hs] at h
    split_ifs at h
  case idle | pulse | xmit =>
    simp only [fsmAfter, hs] at h
    split_ifs at h
    assumption
  case halted | cfgfail | reserved7 => simp [fsmAfter, hs] at h

/-- No rule leads to the reserved code. -/
theorem fsmAfter_ne_reserved7 (h : s.st ≠ .reserved7) : fsmAfter io s ≠ .reserved7 := by
  cases hs : s.st
  case reserved7 => exact absurd hs h
  case init | idle | pulse | xmit =>
    simp only [fsmAfter, hs]
    split_ifs <;> decide
  case stopped | halted | cfgfail => simp [fsmAfter, hs]

/-- R47: the failure counter never comes back to zero. -/
theorem coreStep_txerrCnt_ne_zero (h : s.txerrCnt ≠ 0 ∨ failureTaken io s = true) : (coreStep io s).txerrCnt ≠ 0 := by
  have hsucc : sat16 (s.txerrCnt.toNat + 1) ≠ 0 := by
    intro hzero
    have hnat : (sat16 (s.txerrCnt.toNat + 1)).toNat = 0 := congrArg BitVec.toNat hzero
    simp only [sat16, BitVec.toNat_ofNat] at hnat
    omega
  rw [coreStep_txerrCnt]
  split_ifs with htaken
  · exact hsucc
  · exact h.resolve_right htaken

end

/-! ### Every step (R200) -/

/-- R184 and what the reports record, kept by every step without `rst`. -/
theorem coreStep_coherent {io : Input} {s : State} (h : Coherent s) : Coherent (coreStep io s) :=
  have hsched : SchedCoherent (coreStep io s).params (coreStep io s).sched := by
    rw [coreStep_sched, coreStep_params]
    exact schedAfter_coherent h
  { hsched with
    params := by rw [coreStep_params]; exact h.params
    fsm := by rw [coreStep_st]; exact fsmAfter_ne_reserved7 h.fsm
    err := by rw [coreStep_lastErr]; exact errAfter_isReserved h.err
    stopped_latched := by
      rw [coreStep_st, coreStep_stopLat]
      exact stopRequested_of_fsmAfter_stopped h.stopped_latched
    cfgfail_reported := by
      rw [coreStep_st, coreStep_lastErr]
      exact errAfter_of_fsmAfter_cfgfail h.cfgfail_reported
    invalid_sticky := by
      rw [coreStep_lastErr, coreStep_errInv, Bool.or_eq_true]
      exact fun herr => (errAfter_eq_raised herr).symm.imp h.invalid_sticky invalidChannel_mem_causesOf
    protocol_sticky := by
      rw [coreStep_lastErr, coreStep_errProto, Bool.or_eq_true]
      exact fun herr => (errAfter_eq_raised herr).symm.imp h.protocol_sticky protocolViolation_mem_causesOf
    transport_counted := by
      rw [coreStep_lastErr]
      exact fun herr => coreStep_txerrCnt_ne_zero
        ((errAfter_eq_raised herr).symm.imp h.transport_counted transportError_mem_causesOf) }

/-- R250: `ResetState` is coherent. -/
theorem coherent_resetOf {p : Params} (hp : paramsValid p = true) (script : List Nat) :
    Coherent (State.resetOf p script) where
  params := hp
  fsm := by simp
  err := rfl
  xmit_iff_request := by simp
  xmit_dirty := by simp
  timer_iff_running := by simp [FsmState.Running]
  tmr_range := by
    simp only [paramsValid, Bool.and_eq_true, decide_eq_true_eq] at hp
    simp; omega
  pcnt_range := by simpa using pulseCycles_pos hp
  pend_running := by simp
  pulse_blank := by simp
  wsnap_dirty := by simp
  fail_after_xmit := by simp
  stopped_latched := by simp
  cfgfail_reported := by simp
  invalid_sticky := by simp
  protocol_sticky := by simp
  transport_counted := by simp

/-- Settles O44: a step is a reset or the step of R200, at the state without the word taken. -/
theorem everyStepKeepsCoherence : Obligations.EveryStepKeepsCoherence := by
  intro s t h hstep
  obtain ⟨-, rfl⟩ | ⟨-, rfl⟩ := step_next_cases hstep
  · exact coherent_resetOf h.params _
  · exact coreStep_coherent (coherent_consumeWord h)

/-- R200: from a coherent state a word of R82's width leads to `ResetState` or to the step of R200. -/
theorem step_of_coherent {s : State} (h : Coherent s) (hw : nextWord s < 2 ^ s.params.wordBits) :
    step s = .next (if (unpackWord s.params (nextWord s)).rst then State.resetOf s.params s.script.tail
      else coreStep (unpackWord s.params (nextWord s)) (consumeWord s)) := by
  rw [step_eq_clockEdge hw]
  split_ifs with hrst
  · exact (atEdge_eq_next ..).2 ⟨h.params, .inl ⟨hrst, rfl⟩⟩
  · exact clockEdge_of_operational (coherent_consumeWord h).toOperational (Bool.eq_false_iff.2 hrst)

/-- Settles O45: a coherent state is operational. -/
theorem coherentStatesAlwaysStep : Obligations.CoherentStatesAlwaysStep :=
  fun _ h hw => ⟨_, step_of_coherent h hw⟩

/-! ### The level of BLANK (R184 (d)) -/

/-- Outside INIT a step without `rst` keeps BLANK on the pulse, and leaves it as it was where it leads to HALTED. -/
theorem coreStep_blank {io : Input} {s : State} (h : BlankFollowsPulse s) (hs : s.st ≠ .init) :
    BlankFollowsPulse (coreStep io s) ∧ ((coreStep io s).st = .halted → (coreStep io s).blank = s.blank) := by
  obtain ⟨hhigh, hlow⟩ := h
  have hsched : ((schedAfter io s).st = .pulse → (schedAfter io s).blank = true)
      ∧ ((schedAfter io s).st = .idle ∨ (schedAfter io s).st = .xmit ∨ (schedAfter io s).st = .stopped →
          (schedAfter io s).blank = false)
      ∧ ((schedAfter io s).st = .halted → (schedAfter io s).blank = s.blank) := by
    cases hst : s.st
    case init => exact absurd hst hs
    case idle =>
      have hblank : s.blank = false := hlow (.inl hst)
      simp only [schedAfter, hst, idleSched]
      split_ifs <;> simp [acceptedSched, hst, hblank]
    case pulse =>
      have hblank : s.blank = true := hhigh hst
      simp only [schedAfter, hst, pulseSched]
      split_ifs <;> simp [snapshotSched, hst, hblank]
    case xmit =>
      have hblank : s.blank = false := hlow (.inr (.inl hst))
      simp only [schedAfter, hst, xmitSched]
      split_ifs <;> simp [hst, hblank]
    case stopped =>
      have hblank : s.blank = false := hlow (.inr (.inr hst))
      simp [schedAfter, hst, hblank]
    case halted | cfgfail | reserved7 => simp [schedAfter, hst]
  rw [← coreStep_sched] at hsched
  obtain ⟨hpulse, hothers, hhalted⟩ := hsched
  exact ⟨⟨hpulse, hothers⟩, hhalted⟩

/-- R170: a step from IDLE to PULSE raises BLANK. -/
theorem coreStep_blank_of_idle_to_pulse {io : Input} {s : State} (hs : s.st = .idle)
    (hpulse : (coreStep io s).st = .pulse) : (coreStep io s).blank = true := by
  have hsched : (schedAfter io s).st = .pulse → (schedAfter io s).blank = true := by
    simp only [schedAfter, hs, idleSched]
    split_ifs <;> simp [acceptedSched, hs]
  rw [← coreStep_sched] at hsched
  exact hsched hpulse

/-- Settles O49: HALTED keeps the level that the state before it had, and every other level follows the FSM state. -/
theorem blankIsHighExactlyInThePulse : Obligations.BlankIsHighExactlyInThePulse := by
  refine ⟨fun io s t hexec hs hpulse => ?raised, fun i s t h hs hexec hrst => ?kept⟩
  case raised =>
    have hrst : ∀ io', (Instr.tickAccept io).ports = some io' → io'.rst = false := by rintro _ ⟨⟩; rfl
    refine ⟨fun _ => ?_, fun hother => by simp [hpulse] at hother⟩
    obtain ⟨io', -, rfl⟩ | ⟨enc, dec, rfl⟩ := exec_next_cases_of_not_rst hexec hrst
    · exact coreStep_blank_of_idle_to_pulse hs hpulse
    · simp [hs] at hpulse
  case kept =>
    have hnext : BlankFollowsPulse t ∧ (t.st = .halted → t.blank = s.blank) := by
      obtain ⟨io, -, rfl⟩ | ⟨enc, dec, rfl⟩ := exec_next_cases_of_not_rst hexec hrst
      · exact coreStep_blank h hs
      · exact ⟨h, fun _ => rfl⟩
    obtain ⟨hfollows, hheld⟩ := hnext
    obtain ⟨hhigh, hlow⟩ := h
    refine ⟨hfollows, fun hhalted => ?_⟩
    rw [hheld hhalted]
    exact ⟨hhigh, fun hst => hlow (hst.imp_right .inl), fun _ => rfl⟩

/-! ### Runs -/

/-- The first step of a run. -/
theorem run_succ {s u : State} (h : step s = .next u) (n : Nat) :
    Host.Core.run Sys2Proof.core (n + 1) s = Host.Core.run Sys2Proof.core n u := by
  have hcore : Sys2Proof.core.step s = .next u := h
  simp only [Host.Core.run, hcore]

theorem run_one {s u : State} (h : Host.Core.run Sys2Proof.core 1 s = .next u) : step s = .next u := by
  have hcore : Sys2Proof.core.step s = step s := rfl
  cases hstep : step s with
  | next v => rw [run_succ hstep] at h; exact h
  | fault r => simp [Host.Core.run, hcore, hstep] at h
  | refused r => simp [Host.Core.run, hcore, hstep] at h

/-- Every word still to come is an input word (R82); so is the idle word of a step that the script does not name. -/
theorem nextWord_lt {s : State} (h : ∀ w ∈ s.script, w < 2 ^ s.params.wordBits) : nextWord s < 2 ^ s.params.wordBits := by
  unfold nextWord
  cases hl : s.script with
  | nil =>
    have hbits : 8 ≤ s.params.wordBits := by rw [Params.wordBits]; omega
    exact (show idleWord < 2 ^ 8 by decide).trans_le (Nat.pow_le_pow_right Nat.two_pos hbits)
  | cons w ws => exact h w (by simp [hl])

/-- From a coherent state a run over input words never stops and stays coherent. -/
theorem run_coherent (n : Nat) {s : State} (h : Coherent s) (hw : ∀ w ∈ s.script, w < 2 ^ s.params.wordBits) :
    ∃ t, Host.Core.run Sys2Proof.core n s = .next t ∧ Coherent t := by
  induction n generalizing s with
  | zero => exact ⟨s, rfl, h⟩
  | succ n ih =>
    obtain ⟨u, hstep⟩ := coherentStatesAlwaysStep s h (nextWord_lt hw)
    obtain ⟨hparams, hscript⟩ := parametersNeverChange.2 s u hstep
    rw [run_succ hstep]
    refine ih (everyStepKeepsCoherence s u h hstep) fun w hmem => ?_
    rw [hparams]
    exact hw w (List.mem_of_mem_tail (hscript ▸ hmem))

/-- Settles O46: `ResetState` is coherent, and every word of the script is an input word. -/
theorem runsFromResetNeverStop : Obligations.RunsFromResetNeverStop :=
  fun _ script n hp hw => run_coherent n (coherent_resetOf hp script) hw

/-! ### The grid of expiries (R163) -/

/-- R161: each count, reload or not, moves the counter by one on a cycle of PERIOD_CYCLES. -/
theorem countedTmr_modEq {s : State} (hrun : s.tmrRun = true) (hperiod : 0 < s.params.periodCycles) :
    countedTmr s + 1 ≡ s.tmr [MOD s.params.periodCycles] := by
  simp only [countedTmr, hrun, if_true]
  split_ifs with hzero
  · rw [Nat.sub_add_cancel hperiod, hzero]
    exact (Nat.modEq_zero_iff_dvd.2 dvd_rfl)
  · rw [Nat.sub_add_cancel (Nat.pos_of_ne_zero hzero)]

/-- A step after which the timer still runs was no reset, and INIT does not start the timer where it runs already. -/
theorem step_tmr_of_running {s u : State} (h : Coherent s) (hrun : s.tmrRun = true) (hstep : step s = .next u)
    (hrun' : u.tmrRun = true) : u.tmr = countedTmr s := by
  have hinit : s.st ≠ .init := by
    intro hs
    have hrunning := h.timer_iff_running.1 hrun
    simp [hs, FsmState.Running] at hrunning
  obtain ⟨-, rfl⟩ | ⟨-, rfl⟩ := step_next_cases hstep
  · simp at hrun'
  · simp [hinit]; rfl

/-- Settles O51, by induction on the steps: each moves the counter by one on its cycle. -/
theorem expiryGridDoesNotDrift : Obligations.ExpiryGridDoesNotDrift := by
  intro s t n h hrun hruns ht
  induction n generalizing s with
  | zero =>
    obtain rfl : s = t := Host.Outcome.next.inj ht
    exact ⟨h.tmr_range, rfl⟩
  | succ n ih =>
    obtain ⟨u, hfirst, hrun'⟩ := hruns 1 (by omega)
    have hstep : step s = .next u := run_one hfirst
    have hparams : u.params = s.params := (parametersNeverChange.2 s u hstep).1
    have hrest : ∀ m ≤ n, ∃ v, Host.Core.run Sys2Proof.core m u = .next v ∧ v.tmrRun = true := fun m hm => by
      rw [← run_succ hstep]
      exact hruns (m + 1) (by omega)
    obtain ⟨hrange, hgrid⟩ := ih u (everyStepKeepsCoherence s u h hstep) hrun' hrest (run_succ hstep n ▸ ht)
    rw [hparams, step_tmr_of_running h hrun hstep hrun'] at hgrid
    refine ⟨hparams ▸ hrange, ?_⟩
    have hperiod : 0 < s.params.periodCycles := Nat.zero_lt_of_lt h.tmr_range
    calc t.tmr + (n + 1) ≡ countedTmr s + 1 [MOD s.params.periodCycles] := Nat.ModEq.add_right 1 hgrid
      _ ≡ s.tmr [MOD s.params.periodCycles] := countedTmr_modEq hrun hperiod

/-! ### The length of a pulse (R171, R176) -/

theorem wordAt_zero (s : State) : wordAt s.script 0 = nextWord s := by
  cases hl : s.script <;> simp [wordAt, nextWord, hl]

theorem wordAt_tail (script : List Nat) (n : Nat) : wordAt script.tail n = wordAt script (n + 1) := by
  cases script <;> simp [wordAt]

/-- R171: with pulse steps to come and no link fault, a pulse step keeps BLANK high and counts. -/
theorem coreStep_of_pulse_holding {io : Input} {s : State} (hs : s.st = .pulse) (hcount : 0 < s.pcnt)
    (hfault : io.blankFault = false) :
    (coreStep io s).st = .pulse ∧ (coreStep io s).pcnt = s.pcnt - 1 := by
  have hsel : pulseHoldSelected io s = true := by simp [pulseHoldSelected, hs, hcount, hfault]
  have hsched := (coreStep_sched io s).trans (schedAfter_of_pulseHoldSelected hsel)
  exact ⟨(congrArg Sched.st hsched).trans hs, congrArg Sched.pcnt hsched⟩

/-- R171: the last pulse step without a link fault lowers BLANK and leaves PULSE. -/
theorem coreStep_of_pulse_ending {io : Input} {s : State} (hs : s.st = .pulse) (hcount : s.pcnt = 0)
    (hfault : io.blankFault = false) :
    ((coreStep io s).st = .stopped ∨ (coreStep io s).st = .xmit ∨ (coreStep io s).st = .idle)
      ∧ (coreStep io s).blank = false := by
  have hsched : (schedAfter io s).blank = false := by
    simp only [schedAfter, hs, pulseSched, hfault, hcount]
    split_ifs <;> simp_all [snapshotSched]
  refine ⟨?_, (congrArg Sched.blank (coreStep_sched io s)).trans hsched⟩
  simp only [coreStep_st, fsmAfter, hs, hfault, hcount]
  split_ifs <;> simp_all

/-- Settles O52, by induction on the steps: each but the last is a holding step, the last an ending one. -/
theorem blankPulseLastsItsCount : Obligations.BlankPulseLastsItsCount := by
  intro s n h hs hn hwords
  induction n generalizing s with
  | zero => exact ⟨s, rfl, fun _ => ⟨hs, h.pulse_blank hs, rfl⟩, fun hlast => by omega⟩
  | succ n ih =>
    obtain ⟨hfits, hrst, hfault⟩ := hwords 0 (by omega)
    rw [wordAt_zero] at hfits hrst hfault
    have hstep := step_of_coherent h hfits
    rw [hrst, if_neg Bool.false_ne_true] at hstep
    have hcoherent := everyStepKeepsCoherence s _ h hstep
    obtain ⟨io, hio⟩ : ∃ io, io = unpackWord s.params (nextWord s) := ⟨_, rfl⟩
    rw [← hio] at hfault hstep hcoherent
    obtain hcount | hcount := Nat.eq_zero_or_pos s.pcnt
    case inl =>
      obtain rfl : n = 0 := by omega
      refine ⟨_, run_succ hstep 0, fun hle => by omega, fun _ => ?_⟩
      exact coreStep_of_pulse_ending (s := consumeWord s) hs hcount hfault
    case inr =>
      obtain ⟨hst, hpcnt⟩ := coreStep_of_pulse_holding (s := consumeWord s) hs hcount hfault
      have hleft : (coreStep io (consumeWord s)).pcnt = s.pcnt - 1 := hpcnt
      obtain ⟨t, hrun, hheld, hended⟩ := ih _ hcoherent hst (by omega) fun m hm => by
        simpa [wordAt_tail] using hwords (m + 1) (by omega)
      refine ⟨t, (run_succ hstep n).trans hrun, fun hle => ?_, fun hlast => hended (by omega)⟩
      obtain ⟨hpulse, hblank, hcnt⟩ := hheld (by omega)
      exact ⟨hpulse, hblank, by omega⟩

end Sys2Proof.Proofs
end

section
/-! PROOFS. Reset (70_reset_and_hazards.md): what RESET loads and what the outputs then show (R250), the invariants at reset
(R184, R73), and the run from there to the first transmit (R254). -/

namespace Sys2Proof.Proofs

open Sys2Proof.Machine

/-! ### The invariants at reset (R250) -/

/-- Settles O43: the default parameters are among those that R8 allows. -/
theorem resetStateIsCoherent : Obligations.ResetStateIsCoherent :=
  have hdefaults : paramsValid Config.defaults = true := by decide
  ⟨coherent_resetOf hdefaults [], fun _ script hp => coherent_resetOf hp script⟩

/-- Settles O48: the base case of O47's invariant. -/
theorem resetStateHasLostNothing : Obligations.ResetStateHasLostNothing := nothingLost_resetOf

/-! ### RESET (R250) -/

/-- R250: with valid parameters, RESET answers `ResetState` from any state, whatever the other ports. -/
theorem exec_reset {s : State} (hp : paramsValid s.params = true) (io : Input) :
    exec (.reset io) s = .next (State.resetOf s.params s.script) := by
  rw [exec_eq_clockEdge rfl, clockEdge, atEdge_eq_next]
  exact ⟨hp, .inl ⟨rfl, rfl⟩⟩

/-- R52, R250: after reset the status word shows `dirty` in bit 3 and BLANK_INIT in bit 7, and INIT is code 0. -/
theorem status_resetOf (p : Params) (script : List Nat) :
    (State.resetOf p script).status = if p.blankInit then 0x0088 else 0x0008 := by
  have hfatal : (State.resetOf p script).fatal = false := rfl
  simp only [State.status, hfatal, resetOf_lastErr, resetOf_ovr, resetOf_errProto, resetOf_errInv, resetOf_txReq,
    resetOf_blank, resetOf_stopLat, resetOf_tickPend, resetOf_wsnap, resetOf_dirty, resetOf_st]
  cases p.blankInit <;> decide

/-- R84: RESET is the first row of the table, so bit 0 alone selects it. -/
theorem operationOf_eq_reset_iff (io : Input) : operationOf io = .reset io ↔ io.rst = true := by
  refine ⟨fun h => ?_, fun h => by simp [operationOf, h]⟩
  have hsel := operationOf_selecting io
  rwa [h] at hsel

/-- R84, R82: of the words of R82's width, those with bit 0 set decode to RESET. -/
theorem testBit_zero_iff_decodeWord_eq_reset {p : Params} {w : Nat} (hw : w < 2 ^ p.wordBits) :
    w.testBit 0 = true ↔ decodeWord p w = .ok (.reset (unpackWord p w)) := by
  rw [decodeWord_eq_ok_iff, operationOf_eq_reset_iff]
  exact (and_iff_right hw).symm

/-- R183: the step of R200 stays in a terminal FSM state. -/
theorem coreStep_st_of_terminal {s : State} (hs : s.st.Terminal) (io : Input) : (coreStep io s).st = s.st := by
  have hsched := (coreStep_sched io s).trans (schedAfter_of_terminal hs)
  exact (congrArg Sched.st hsched).trans (steppedSched_fields io s).1

/-- R183: what leaves a terminal FSM state has `rst` set: neither the step of R200 nor a recorded result leaves it. -/
theorem rst_of_terminal_left {i : Instr} {s t : State} (hs : s.st.Terminal) (h : exec i s = .next t)
    (hleft : t.st ≠ s.st) : ∃ io, i.ports = some io ∧ io.rst = true := by
  obtain ⟨io, hi, hr, -⟩ | ⟨io, -, -, rfl⟩ | ⟨-, enc, dec, rfl⟩ := exec_next_cases h
  · exact ⟨io, hi, hr⟩
  · exact absurd (coreStep_st_of_terminal hs io) hleft
  · exact absurd rfl hleft

/-- Settles O15: RESET answers `ResetState`, whose fields and outputs are read off its definition. -/
theorem resetLoadsTheResetState : Obligations.ResetLoadsTheResetState := by
  refine ⟨fun io s hp => ⟨_, exec_reset hp io, ?gs, ?fb, rfl, rfl, rfl, rfl, rfl, rfl, rfl, rfl, rfl, rfl, rfl, rfl, rfl,
      rfl, rfl, rfl, rfl, rfl, rfl, ?outputs⟩,
    fun p w => testBit_zero_iff_decodeWord_eq_reset,
    fun io p l hp => ⟨_, exec_reset (s := State.resetOf p l) hp io, rfl⟩,
    fun i s t => rst_of_terminal_left⟩
  case gs => exact fun _ h => Vector.getElem_replicate h
  case fb => exact fun _ h => Vector.getElem_replicate h
  case outputs => exact fun _ => ⟨rfl, rfl, rfl, rfl, rfl, rfl, rfl, status_resetOf s.params s.script⟩

/-! ### The first tick after a reset (R254) -/

/-- A state on the way from reset to the first transmit: no transaction has begun, so the device is still dirty, no teardown
is latched, and no tick waits in IDLE. -/
structure Unsent (s : State) : Prop where
  coherent : Coherent s
  before_xmit : s.st = .init ∨ s.st = .idle ∨ s.st = .pulse
  dirty : s.dirty = true
  no_stop : s.stopLat = false
  no_tick : s.st = .idle → s.tickPend = false

/-- The steps that quiet words leave, on that way, before the last pulse step. -/
def stepsToLastPulse (s : State) : Nat :=
  match s.st with
  | .init => s.params.periodCycles + s.params.pulseCycles
  | .idle => s.tmr + s.params.pulseCycles
  | .pulse => s.pcnt
  | .xmit | .stopped | .halted | .cfgfail | .reserved7 => 0

/-- After `k` steps the last pulse step comes, and with it the snapshot of the registers and the transmit. -/
def TransmitsAfter (k : Nat) (s : State) : Prop :=
  ∃ u t, Host.Core.run Sys2Proof.core k s = .next u ∧ u.st = .pulse ∧ u.blank = true ∧ u.pcnt = 0
    ∧ Host.Core.run Sys2Proof.core (k + 1) s = .next t
    ∧ t.st = .xmit ∧ t.txReq = true ∧ t.blank = false ∧ t.fb = encodeFrame u.gs

theorem unsent_resetOf {p : Params} (hp : paramsValid p = true) (script : List Nat) :
    Unsent (State.resetOf p script) where
  coherent := coherent_resetOf hp script
  before_xmit := .inl rfl
  dirty := rfl
  no_stop := rfl
  no_tick := by simp

/-- The count at reset is R254's. -/
theorem stepsToLastPulse_resetOf (p : Params) (script : List Nat) :
    stepsToLastPulse (State.resetOf p script) = p.periodCycles + p.pulseCycles := rfl

/-- Taking the word out of the script concerns no other field. -/
theorem unsent_consumeWord {s : State} (h : Unsent s) : Unsent (consumeWord s) :=
  { h with coherent := coherent_consumeWord h.coherent }

/-- R200: a quiet word leads to the step of R200, on ports with no teardown and no link fault. -/
theorem step_of_quietWord {s : State} (h : Coherent s) (hquiet : QuietWord s.params (wordAt s.script 0)) :
    let io := unpackWord s.params (wordAt s.script 0)
    step s = .next (coreStep io (consumeWord s)) ∧ io.stopReq = false ∧ io.blankFault = false := by
  rw [wordAt_zero] at hquiet ⊢
  obtain ⟨hfits, hrst, hstop, hfault⟩ := hquiet
  have hstep := step_of_coherent h hfits
  rw [hrst, if_neg Bool.false_ne_true] at hstep
  exact ⟨hstep, hstop, hfault⟩

theorem transmitsAfter_succ {s u : State} (hstep : step s = .next u) {k : Nat} (h : TransmitsAfter k u) :
    TransmitsAfter (k + 1) s := by
  unfold TransmitsAfter
  rwa [run_succ hstep, run_succ hstep]

section
variable {io : Input} {s : State}

/-- R168: with resources and no link fault, INIT goes to IDLE and starts a full period. -/
theorem coreStep_of_init_passing (hs : s.st = .init) (hres : io.resOk = true) (hfault : io.blankFault = false) :
    (coreStep io s).st = .idle ∧ (coreStep io s).tmr = s.params.periodCycles - 1
      ∧ (coreStep io s).tickPend = s.tickPend := by
  have hsched : (schedAfter io s).tickPend = s.tickPend := by simp [schedAfter, hs, initSched, hres, hfault]
  exact ⟨by simp [fsmAfter, hs, hres, hfault], by simp [hs, hres, hfault],
    (congrArg Sched.tickPend (coreStep_sched io s)).trans hsched⟩

/-- R161, R169: with no tick, no teardown and no link fault, IDLE stays and the period counts down. -/
theorem coreStep_of_idle_waiting (hs : s.st = .idle) (hrun : s.tmrRun = true) (hcount : s.tmr ≠ 0)
    (htick : s.tickPend = false) (hstop : stopRequested io s = false) (hfault : io.blankFault = false) :
    (coreStep io s).st = .idle ∧ (coreStep io s).tmr = s.tmr - 1 ∧ (coreStep io s).tickPend = false := by
  have hexp : timerExpired s = false := by simp [timerExpired, hcount]
  have hsched : schedAfter io s = steppedSched io s := by simp [schedAfter, hs, idleSched, hfault, hstop, hexp, htick]
  refine ⟨by simp [fsmAfter, hs, hfault, hstop, hexp, htick], by simp [hs, countedTmr, hrun, hcount], ?_⟩
  rw [← coreStep_sched] at hsched
  exact (congrArg Sched.tickPend hsched).trans htick

/-- R170: at an expiry with no teardown and no link fault, IDLE starts a full pulse. -/
theorem coreStep_of_idle_expiring (hs : s.st = .idle) (hexp : timerExpired s = true)
    (hstop : stopRequested io s = false) (hfault : io.blankFault = false) :
    (coreStep io s).st = .pulse ∧ (coreStep io s).pcnt = s.params.pulseCycles - 1 := by
  have hsel : tickAcceptSelected io s = true := by simp [tickAcceptSelected, hs, hfault, hstop, hexp]
  have hsched := (coreStep_sched io s).trans (schedAfter_of_tickAcceptSelected hsel)
  exact ⟨congrArg Sched.st hsched, congrArg Sched.pcnt hsched⟩

/-- R171, R172: the last pulse step of a dirty device with no teardown and no link fault takes the snapshot, lowers BLANK
and raises the request. -/
theorem coreStep_of_last_pulse (h : Unsent s) (hs : s.st = .pulse) (hcount : s.pcnt = 0)
    (hstop : io.stopReq = false) (hfault : io.blankFault = false) :
    (coreStep io s).st = .xmit ∧ (coreStep io s).txReq = true ∧ (coreStep io s).blank = false
      ∧ (coreStep io s).fb = encodeFrame s.gs := by
  have hsel : snapshotSendSelected io s = true := by
    simp [snapshotSendSelected, stopRequested, hs, hcount, h.dirty, h.no_stop, hstop, hfault]
  have hblank := (coreStep_sched io s).trans (schedAfter_of_snapshotSendSelected hsel)
  obtain ⟨-, -, -, hxmit, hreq, -, hfb⟩ := coreStep_of_snapshotSendSelected hsel
  exact ⟨hxmit, hreq, congrArg Sched.blank hblank, hfb⟩

/-- Outside XMIT no step clears `dirty`, and without STOP_REQ none latches a teardown; so a step stays on the way where it
leads to PULSE, or to IDLE with no tick waiting. -/
theorem Unsent.coreStep_of_st (h : Unsent s) (hstop : io.stopReq = false)
    (hst : ((coreStep io s).st = .idle ∧ (coreStep io s).tickPend = false) ∨ (coreStep io s).st = .pulse) :
    Unsent (coreStep io s) where
  coherent := coreStep_coherent h.coherent
  before_xmit := .inr (hst.imp_left And.left)
  dirty := by
    by_contra hclean
    obtain ⟨htaken, -, -⟩ := coreStep_dirty_falls h.dirty (Bool.eq_false_iff.2 hclean)
    obtain ⟨hxmit, -, -, -⟩ := (successTaken_iff io s).1 htaken
    have hbefore := h.before_xmit
    simp [hxmit] at hbefore
  no_stop := by simp [h.no_stop, hstop]
  no_tick hidle := by
    obtain ⟨-, htick⟩ | hpulse := hst
    · exact htick
    · rw [hidle] at hpulse
      contradiction

/-- A step on quiet ports takes one from the count, whichever FSM state it is taken in. -/
theorem Unsent.coreStep_counts (h : Unsent s) (hleft : stepsToLastPulse s ≠ 0) (hstop : io.stopReq = false)
    (hfault : io.blankFault = false) (hres : s.st = .init → io.resOk = true) :
    Unsent (coreStep io s) ∧ (coreStep io s).st ≠ .init
      ∧ stepsToLastPulse s = stepsToLastPulse (coreStep io s) + 1 := by
  have hnostop : stopRequested io s = false := by simp [stopRequested, h.no_stop, hstop]
  have hpulse : 0 < s.params.pulseCycles := pulseCycles_pos h.coherent.params
  have hperiod : 0 < s.params.periodCycles := Nat.zero_lt_of_lt h.coherent.tmr_range
  obtain hs | hs | hs := h.before_xmit
  case inl =>
    have hnotick : s.tickPend = false := Bool.eq_false_iff.2 fun hpend => by
      have hrunning := h.coherent.pend_running hpend
      simp [hs, FsmState.Running] at hrunning
    obtain ⟨hst, htmr, htick⟩ := coreStep_of_init_passing hs (hres hs) hfault
    refine ⟨h.coreStep_of_st hstop (.inl ⟨hst, htick.trans hnotick⟩), by rw [hst]; decide, ?_⟩
    simp only [stepsToLastPulse, hs, hst, htmr, coreStep_params]
    omega
  case inr.inl =>
    have hrun : s.tmrRun = true := h.coherent.timer_iff_running.2 (.inl hs)
    by_cases hcount : s.tmr = 0
    · obtain ⟨hst, hpcnt⟩ := coreStep_of_idle_expiring hs ((timerExpired_iff s).2 ⟨hrun, hcount⟩) hnostop hfault
      refine ⟨h.coreStep_of_st hstop (.inr hst), by rw [hst]; decide, ?_⟩
      simp only [stepsToLastPulse, hs, hst, hpcnt, hcount]
      omega
    · obtain ⟨hst, htmr, htick⟩ := coreStep_of_idle_waiting hs hrun hcount (h.no_tick hs) hnostop hfault
      refine ⟨h.coreStep_of_st hstop (.inl ⟨hst, htick⟩), by rw [hst]; decide, ?_⟩
      simp only [stepsToLastPulse, hs, hst, htmr, coreStep_params]
      omega
  case inr.inr =>
    have hcount : s.pcnt ≠ 0 := by simpa [stepsToLastPulse, hs] using hleft
    obtain ⟨hst, hpcnt⟩ := coreStep_of_pulse_holding hs (Nat.pos_of_ne_zero hcount) hfault
    refine ⟨h.coreStep_of_st hstop (.inr hst), by rw [hst]; decide, ?_⟩
    simp only [stepsToLastPulse, hs, hst, hpcnt]
    omega

/-- With no step left before it, the state is in the last pulse step. -/
theorem Unsent.last_pulse (h : Unsent s) (hleft : stepsToLastPulse s = 0) : s.st = .pulse ∧ s.pcnt = 0 := by
  have hpulse : 0 < s.params.pulseCycles := pulseCycles_pos h.coherent.params
  obtain hs | hs | hs := h.before_xmit <;> simp only [stepsToLastPulse, hs] at hleft
  · omega
  · omega
  · exact ⟨hs, hleft⟩

end

/-- R254 from any state on the way: quiet words lead to the transmit in as many steps as the count says. -/
theorem transmitsAfter_stepsToLastPulse (k : Nat) {s : State} (h : Unsent s) (hk : stepsToLastPulse s = k)
    (hquiet : ∀ m ≤ k, QuietWord s.params (wordAt s.script m))
    (hres : s.st = .init → (unpackWord s.params (wordAt s.script 0)).resOk = true) : TransmitsAfter k s := by
  induction k generalizing s with
  | zero =>
    obtain ⟨hstep, hstop, hfault⟩ := step_of_quietWord h.coherent (hquiet 0 le_rfl)
    obtain ⟨hs, hcount⟩ := h.last_pulse hk
    exact ⟨s, _, rfl, hs, h.coherent.pulse_blank hs, hcount, run_succ hstep 0,
      coreStep_of_last_pulse (unsent_consumeWord h) hs hcount hstop hfault⟩
  | succ k ih =>
    obtain ⟨hstep, hstop, hfault⟩ := step_of_quietWord h.coherent (hquiet 0 (by omega))
    have hleft : stepsToLastPulse (consumeWord s) = k + 1 := hk
    obtain ⟨hnext, hinit, hcounts⟩ := (unsent_consumeWord h).coreStep_counts (by omega) hstop hfault hres
    refine transmitsAfter_succ hstep (ih hnext (by omega) (fun m hm => ?_) fun hs => absurd hs hinit)
    simpa [wordAt_tail] using hquiet (m + 1) (by omega)

/-- Settles O53: `ResetState` is on the way to the first transmit, PERIOD_CYCLES + PULSE_CYCLES steps before it. -/
theorem firstTickAfterResetTransmits : Obligations.FirstTickAfterResetTransmits :=
  fun p script hp hquiet hres =>
    transmitsAfter_stepsToLastPulse _ (unsent_resetOf hp script) (stepsToLastPulse_resetOf p script) hquiet fun _ => hres

end Sys2Proof.Proofs
end
